-- ==== Sys2Proof/Word.lean ====
section
/-! DEFINITION. The machine word and the byte of the image file (00_scope.md R4, R7, R8).

A word is a `BitVec 16`; bit 0 is the least significant bit (R7, the spec's decision D1; log entry 17). The spec's
`add16` and `sub16` are `+` and `-` of `BitVec 16`, which reduce modulo 65536 (R8). -/

namespace Sys2Proof

/-- A 16-bit word: a register, a memory word, or an address (00_scope.md R4). -/
abbrev Word := BitVec 16

/-- A byte of the image file. The block itself never sees one (20_memory.md R33, R34). -/
abbrev Byte := BitVec 8

end Sys2Proof
end

