-- ==== Sys2Proof/Config.lean ====
section
/-! DEFINITION. The parameters of the hardware (00_scope.md R5): a type of their values, and the values the
spec decides. A claim may speak of every value of them (`Parameters`), or of the decided one (`Config.decided`).

UNVERIFIED: the decided values are the spec's decisions D2, D3, D6 and D11, not the source's (log entries 1, 2,
12). -/

namespace Sys2Proof

/-- Base opcode that marks the special form (`OPC_SPECIAL`; fixed by the source). -/
abbrev Config.opcSpecial : BitVec 5 := 0x00
/-- `OPC_SET`. -/
abbrev Config.opcSet : BitVec 5 := 0x01
/-- `OPC_ADD`. -/
abbrev Config.opcAdd : BitVec 5 := 0x02
/-- `OPC_SUB`. -/
abbrev Config.opcSub : BitVec 5 := 0x03
/-- `OPC_IFB`. -/
abbrev Config.opcIfb : BitVec 5 := 0x10
/-- `OPC_IFC`. -/
abbrev Config.opcIfc : BitVec 5 := 0x11
/-- `OPC_IFE`. -/
abbrev Config.opcIfe : BitVec 5 := 0x12
/-- `OPC_IFN`. -/
abbrev Config.opcIfn : BitVec 5 := 0x13
/-- `OPC_IFG`. -/
abbrev Config.opcIfg : BitVec 5 := 0x14
/-- `OPC_IFA`. -/
abbrev Config.opcIfa : BitVec 5 := 0x15
/-- `OPC_IFL`. -/
abbrev Config.opcIfl : BitVec 5 := 0x16
/-- `OPC_IFU`. -/
abbrev Config.opcIfu : BitVec 5 := 0x17
/-- `SPC_JSR`, the special opcode of the call. -/
abbrev Config.spcJsr : BitVec 5 := 0x01

/-- The implemented base opcodes, special form left out. -/
def Config.implementedBase : List (BitVec 5) :=
  [Config.opcSet, Config.opcAdd, Config.opcSub, Config.opcIfb, Config.opcIfc, Config.opcIfe,
   Config.opcIfn, Config.opcIfg, Config.opcIfa, Config.opcIfl, Config.opcIfu]

/-- What every word of memory outside the image holds at the start of a run (`MEM_INIT`, R26, decision
D6), and so what an address the model's memory does not list reads as (log entry 1). -/
abbrev Config.unlistedWord : Word := 0x0000

/-- The two orders a file may store the bytes of a word in. -/
inductive Config.ByteOrder where
  | bigEndian
  | littleEndian
  deriving DecidableEq, Repr

/-- `IMAGE_BYTE_ORDER` (20_memory.md R34, decision D11). Outside the block. -/
abbrev Config.imageByteOrder : Config.ByteOrder := .bigEndian

/-- The parameters of R5. `OPC_SPECIAL` is not among them: the source fixes it (`Config.opcSpecial`). -/
structure Parameters where
  /-- `OPC_SET`. -/
  opcSet : BitVec 5
  /-- `OPC_ADD`. -/
  opcAdd : BitVec 5
  /-- `OPC_SUB`. -/
  opcSub : BitVec 5
  /-- `OPC_IFB`. -/
  opcIfb : BitVec 5
  /-- `OPC_IFC`. -/
  opcIfc : BitVec 5
  /-- `OPC_IFE`. -/
  opcIfe : BitVec 5
  /-- `OPC_IFN`. -/
  opcIfn : BitVec 5
  /-- `OPC_IFG`. -/
  opcIfg : BitVec 5
  /-- `OPC_IFA`. -/
  opcIfa : BitVec 5
  /-- `OPC_IFL`. -/
  opcIfl : BitVec 5
  /-- `OPC_IFU`. -/
  opcIfu : BitVec 5
  /-- `SPC_JSR`. -/
  spcJsr : BitVec 5
  /-- `MEM_INIT` at the addresses outside the image; at those inside it, it is the image (R196). -/
  outsideImage : Word → Word
  /-- `IMAGE_BYTE_ORDER`. -/
  imageByteOrder : Config.ByteOrder

/-- The values the spec decides. -/
def Config.decided : Parameters where
  opcSet := Config.opcSet
  opcAdd := Config.opcAdd
  opcSub := Config.opcSub
  opcIfb := Config.opcIfb
  opcIfc := Config.opcIfc
  opcIfe := Config.opcIfe
  opcIfn := Config.opcIfn
  opcIfg := Config.opcIfg
  opcIfa := Config.opcIfa
  opcIfl := Config.opcIfl
  opcIfu := Config.opcIfu
  spcJsr := Config.spcJsr
  outsideImage := fun _ => Config.unlistedWord
  imageByteOrder := Config.imageByteOrder

/-- The implemented base opcodes under given parameters. -/
def Parameters.implementedBase (p : Parameters) : List (BitVec 5) :=
  [p.opcSet, p.opcAdd, p.opcSub, p.opcIfb, p.opcIfc, p.opcIfe, p.opcIfn, p.opcIfg, p.opcIfa, p.opcIfl, p.opcIfu]

/-- The limits on the opcode numbers: the eleven are pairwise distinct and none is the special form's
(00_scope.md section 3), and `SPC_JSR` is not 0 (92_eei_decisions.md D3). -/
def Parameters.valid (p : Parameters) : Bool :=
  decide (Config.opcSpecial :: p.implementedBase).Nodup && decide (p.spcJsr ≠ 0)

end Sys2Proof
end

