-- ==== Sys2Proof/Syntax.lean ====
section
/-! DEFINITION. The instruction set as abstract syntax: registers, operands, instructions.

Operand codes are turned into names here and never seen raw by the machine. An instruction holds its
operand CODES; the extra words they consume stay in memory and are read when the operand is resolved
(40_operands.md R73, R77, R81, R82; log entry 6). -/

namespace Sys2Proof

/-- The eight general registers `x[0]` .. `x[7]` (10_state.md R10). -/
inductive Reg where
  | a | b | c | x | y | z | i | j
  deriving DecidableEq, Repr

/-- Which operand a code stands in: the spec's flag `isA` (40_operands.md R70). -/
inductive Role where
  /-- Operand a, the source: `isA` true. -/
  | a
  /-- Operand b, the destination or left operand: `isA` false. -/
  | b
  deriving DecidableEq, Repr

/-- The 64 operand codes, one constructor for each range of 40_operands.md R70. -/
inductive Operand where
  /-- 0x00..0x07, the register (R71). -/
  | reg (r : Reg)
  /-- 0x08..0x0f, memory at the register (R72). -/
  | memReg (r : Reg)
  /-- 0x10..0x17, the LITERAL register + next word (R73). -/
  | regPlusNext (r : Reg)
  /-- 0x18, pop as operand a and push as operand b (R74, R75). -/
  | stack
  /-- 0x19, memory at sp (R76). -/
  | memSp
  /-- 0x1a, the LITERAL sp + next word (R77). -/
  | spPlusNext
  /-- 0x1b, the stack pointer (R78). -/
  | sp
  /-- 0x1c, the program counter (R79). -/
  | pc
  /-- 0x1d, the auxiliary register (R80). -/
  | ex
  /-- 0x1e, memory at next word (R81). -/
  | memNext
  /-- 0x1f, the literal next word (R82). -/
  | next
  /-- 0x20 + k, the inline literal k - 1 modulo 65536; operand a only (R83). -/
  | inline (k : BitVec 5)
  deriving DecidableEq, Repr

/-- The instructions, one constructor for each row of the opcode table, operands in the order of the
assembly notation `MNEMONIC b, a` (30_encoding.md R64). -/
inductive Instr where
  /-- JSR a: push pc, then `pc <- a` (42_special_jsr.md R120). -/
  | jsr (a : Operand)
  /-- SET b, a: `b <- a` (R130). -/
  | set (b a : Operand)
  /-- ADD b, a: `b <- b + a` (R131). -/
  | add (b a : Operand)
  /-- SUB b, a: `b <- b - a` (R132). -/
  | sub (b a : Operand)
  /-- IFB b, a: skip next unless `(b & a) != 0` (R141). -/
  | ifb (b a : Operand)
  /-- IFC b, a: skip next unless `(b & a) == 0` (R142). -/
  | ifc (b a : Operand)
  /-- IFE b, a: skip next unless `b == a` (R143). -/
  | ife (b a : Operand)
  /-- IFN b, a: skip next unless `b != a` (R144). -/
  | ifn (b a : Operand)
  /-- IFG b, a: skip next unless `b > a`, unsigned (R145). -/
  | ifg (b a : Operand)
  /-- IFA b, a: skip next unless `b > a`, signed (R146). -/
  | ifa (b a : Operand)
  /-- IFL b, a: skip next unless `b < a`, unsigned (R147). -/
  | ifl (b a : Operand)
  /-- IFU b, a: skip next unless `b < a`, signed (R148). -/
  | ifu (b a : Operand)
  -- Unknown base opcodes: each halts the machine and reports its code (45_unimplemented.md R160).
  | unknownOpcode04 (b a : Operand)
  | unknownOpcode05 (b a : Operand)
  | unknownOpcode06 (b a : Operand)
  | unknownOpcode07 (b a : Operand)
  | unknownOpcode08 (b a : Operand)
  | unknownOpcode09 (b a : Operand)
  | unknownOpcode0A (b a : Operand)
  | unknownOpcode0B (b a : Operand)
  | unknownOpcode0C (b a : Operand)
  | unknownOpcode0D (b a : Operand)
  | unknownOpcode0E (b a : Operand)
  | unknownOpcode0F (b a : Operand)
  | unknownOpcode18 (b a : Operand)
  | unknownOpcode19 (b a : Operand)
  | unknownOpcode1A (b a : Operand)
  | unknownOpcode1B (b a : Operand)
  | unknownOpcode1C (b a : Operand)
  | unknownOpcode1D (b a : Operand)
  | unknownOpcode1E (b a : Operand)
  | unknownOpcode1F (b a : Operand)
  -- Unknown special opcodes: each halts the machine and reports its code (45_unimplemented.md R161).
  | unknownSpecial00 (a : Operand)
  | unknownSpecial02 (a : Operand)
  | unknownSpecial03 (a : Operand)
  | unknownSpecial04 (a : Operand)
  | unknownSpecial05 (a : Operand)
  | unknownSpecial06 (a : Operand)
  | unknownSpecial07 (a : Operand)
  | unknownSpecial08 (a : Operand)
  | unknownSpecial09 (a : Operand)
  | unknownSpecial0A (a : Operand)
  | unknownSpecial0B (a : Operand)
  | unknownSpecial0C (a : Operand)
  | unknownSpecial0D (a : Operand)
  | unknownSpecial0E (a : Operand)
  | unknownSpecial0F (a : Operand)
  | unknownSpecial10 (a : Operand)
  | unknownSpecial11 (a : Operand)
  | unknownSpecial12 (a : Operand)
  | unknownSpecial13 (a : Operand)
  | unknownSpecial14 (a : Operand)
  | unknownSpecial15 (a : Operand)
  | unknownSpecial16 (a : Operand)
  | unknownSpecial17 (a : Operand)
  | unknownSpecial18 (a : Operand)
  | unknownSpecial19 (a : Operand)
  | unknownSpecial1A (a : Operand)
  | unknownSpecial1B (a : Operand)
  | unknownSpecial1C (a : Operand)
  | unknownSpecial1D (a : Operand)
  | unknownSpecial1E (a : Operand)
  | unknownSpecial1F (a : Operand)
  deriving DecidableEq, Repr

/-- Operand a, which every instruction has (41_step.md R103). -/
def Instr.operandA : Instr → Operand
  | .jsr a => a
  | .set _ a | .add _ a | .sub _ a
  | .ifb _ a | .ifc _ a | .ife _ a
  | .ifn _ a | .ifg _ a | .ifa _ a
  | .ifl _ a | .ifu _ a | .unknownOpcode04 _ a
  | .unknownOpcode05 _ a | .unknownOpcode06 _ a | .unknownOpcode07 _ a
  | .unknownOpcode08 _ a | .unknownOpcode09 _ a | .unknownOpcode0A _ a
  | .unknownOpcode0B _ a | .unknownOpcode0C _ a | .unknownOpcode0D _ a
  | .unknownOpcode0E _ a | .unknownOpcode0F _ a | .unknownOpcode18 _ a
  | .unknownOpcode19 _ a | .unknownOpcode1A _ a | .unknownOpcode1B _ a
  | .unknownOpcode1C _ a | .unknownOpcode1D _ a | .unknownOpcode1E _ a
  | .unknownOpcode1F _ a => a
  | .unknownSpecial00 a | .unknownSpecial02 a | .unknownSpecial03 a
  | .unknownSpecial04 a | .unknownSpecial05 a | .unknownSpecial06 a
  | .unknownSpecial07 a | .unknownSpecial08 a | .unknownSpecial09 a
  | .unknownSpecial0A a | .unknownSpecial0B a | .unknownSpecial0C a
  | .unknownSpecial0D a | .unknownSpecial0E a | .unknownSpecial0F a
  | .unknownSpecial10 a | .unknownSpecial11 a | .unknownSpecial12 a
  | .unknownSpecial13 a | .unknownSpecial14 a | .unknownSpecial15 a
  | .unknownSpecial16 a | .unknownSpecial17 a | .unknownSpecial18 a
  | .unknownSpecial19 a | .unknownSpecial1A a | .unknownSpecial1B a
  | .unknownSpecial1C a | .unknownSpecial1D a | .unknownSpecial1E a
  | .unknownSpecial1F a => a

/-- Operand b, which the special form does not have (41_step.md R104). -/
def Instr.operandB : Instr → Option Operand
  | .jsr _ => none
  | .set b _ | .add b _ | .sub b _
  | .ifb b _ | .ifc b _ | .ife b _
  | .ifn b _ | .ifg b _ | .ifa b _
  | .ifl b _ | .ifu b _ | .unknownOpcode04 b _
  | .unknownOpcode05 b _ | .unknownOpcode06 b _ | .unknownOpcode07 b _
  | .unknownOpcode08 b _ | .unknownOpcode09 b _ | .unknownOpcode0A b _
  | .unknownOpcode0B b _ | .unknownOpcode0C b _ | .unknownOpcode0D b _
  | .unknownOpcode0E b _ | .unknownOpcode0F b _ | .unknownOpcode18 b _
  | .unknownOpcode19 b _ | .unknownOpcode1A b _ | .unknownOpcode1B b _
  | .unknownOpcode1C b _ | .unknownOpcode1D b _ | .unknownOpcode1E b _
  | .unknownOpcode1F b _ => some b
  | .unknownSpecial00 _ | .unknownSpecial02 _ | .unknownSpecial03 _
  | .unknownSpecial04 _ | .unknownSpecial05 _ | .unknownSpecial06 _
  | .unknownSpecial07 _ | .unknownSpecial08 _ | .unknownSpecial09 _
  | .unknownSpecial0A _ | .unknownSpecial0B _ | .unknownSpecial0C _
  | .unknownSpecial0D _ | .unknownSpecial0E _ | .unknownSpecial0F _
  | .unknownSpecial10 _ | .unknownSpecial11 _ | .unknownSpecial12 _
  | .unknownSpecial13 _ | .unknownSpecial14 _ | .unknownSpecial15 _
  | .unknownSpecial16 _ | .unknownSpecial17 _ | .unknownSpecial18 _
  | .unknownSpecial19 _ | .unknownSpecial1A _ | .unknownSpecial1B _
  | .unknownSpecial1C _ | .unknownSpecial1D _ | .unknownSpecial1E _
  | .unknownSpecial1F _ => none

end Sys2Proof
end

