-- ==== Sys2Proof/Machine/State.lean ====
section
/-! DEFINITION. The machine's state (10_state.md): plain data, the spec's closed list R24 and nothing else. -/

namespace Sys2Proof.Machine

/-- The general registers `x[0]` .. `x[7]` (10_state.md R10). -/
structure Regs where
  a : Word
  b : Word
  c : Word
  x : Word
  y : Word
  z : Word
  i : Word
  j : Word
  deriving DecidableEq, Repr

/-- One word of memory at a word address. The hardware has no byte address (20_memory.md R31; log entry 5). -/
abbrev Cell := Nat × Word

/-- The 65536 words of memory (10_state.md R18) in one canonical form (`Memory.wf`): addresses strictly
rising and below 65536, and no entry equal to what an unlisted address reads as (`Config.unlistedWord`). -/
abbrev Memory := List Cell

/-- The run state (10_state.md R20). -/
inductive RunState where
  | running
  | halted
  deriving DecidableEq, Repr

/-- `halt_cause`: why the machine halted (10_state.md R22). -/
inductive HaltCause where
  /-- While `run = Running`. -/
  | none
  /-- A base opcode that is not implemented (45_unimplemented.md R160). -/
  | unknownOpcode
  /-- A special opcode that is not implemented (45_unimplemented.md R161). -/
  | unknownSpecialOpcode
  /-- A write through a literal location (40_operands.md R92). -/
  | literalWrite
  deriving DecidableEq, Repr

/-- The complete architectural state (10_state.md R24). -/
structure State where
  /-- `x[0]` .. `x[7]` (R10). -/
  regs : Regs
  /-- The program counter (R12). -/
  pc : Word
  /-- The stack pointer (R15). -/
  sp : Word
  /-- The auxiliary register (R16). -/
  ex : Word
  /-- `memory` (R18). -/
  memory : Memory
  /-- `run` (R20). -/
  run : RunState
  /-- `halt_cause` (R22). -/
  haltCause : HaltCause
  /-- `halt_code` (R23). -/
  haltCode : BitVec 5
  deriving DecidableEq, Repr

/-- Why a step does not exist. -/
inductive Fault where
  /-- Raised by `step` and `stepWith`, never by the meaning of an instruction: the machine is `Halted`, and no step exists
  in `Halted` (41_step.md R100; 60_exceptions.md R177). SAFE: nothing follows from it (log entry 3). -/
  | noStepWhenHalted
  deriving DecidableEq, Repr

/-- Why an instruction has no meaning. -/
inductive Refusal where
  /-- Raised only by an arm of `exec` for an instruction with no meaning yet; no arm is so. SAFE. -/
  | notModelled (mnemonic : String)
  deriving DecidableEq, Repr

/-- The state right after reset, with no image loaded (10_state.md R26; 70_reset_and_hazards.md R190):
registers, pc, sp, ex zero, memory with nothing listed, running. `State.launch` adds an image. -/
def State.reset : State where
  regs := ⟨0, 0, 0, 0, 0, 0, 0, 0⟩
  pc := 0
  sp := 0
  ex := 0
  memory := []
  run := .running
  haltCause := .none
  haltCode := 0

end Sys2Proof.Machine
end

