-- ==== Sys2Proof/Machine/Flags.lean ====
section
/-! DEFINITION. The predicates of the eight skip-conditionals (44_conditional_skip.md R141 to R148).

The hardware has no flags (10_state.md R17): a predicate is computed from the two operand values and not
kept. UNVERIFIED: operand b is on the left of every comparison, the spec's
decision D5 (log entry 18). -/

namespace Sys2Proof.Machine

/-- `signed16(v)`: the two's-complement reading of a word (00_scope.md section 5.1). -/
def signed16 (v : Word) : Int := if v.toNat < 32768 then (v.toNat : Int) else (v.toNat : Int) - 65536

/-- IFB: `(vb & va) != 0` (R141). -/
def predIfb (vb va : Word) : Bool := decide (vb &&& va ≠ 0)

/-- IFC: `(vb & va) == 0` (R142). -/
def predIfc (vb va : Word) : Bool := decide (vb &&& va = 0)

/-- IFE: `vb == va` (R143). -/
def predIfe (vb va : Word) : Bool := decide (vb = va)

/-- IFN: `vb != va` (R144). -/
def predIfn (vb va : Word) : Bool := decide (vb ≠ va)

/-- IFG: `vb > va`, unsigned (R145). -/
def predIfg (vb va : Word) : Bool := decide (vb.toNat > va.toNat)

/-- IFA: `vb > va`, signed (R146). -/
def predIfa (vb va : Word) : Bool := decide (signed16 vb > signed16 va)

/-- IFL: `vb < va`, unsigned (R147). -/
def predIfl (vb va : Word) : Bool := decide (vb.toNat < va.toNat)

/-- IFU: `vb < va`, signed (R148). -/
def predIfu (vb va : Word) : Bool := decide (signed16 vb < signed16 va)

end Sys2Proof.Machine
end

