-- ==== Sys2Proof/WellFormed.lean ====
section
/-! DEFINITION. Which instructions an instruction word can hold.

The operand-b field has five bits, so operand b is never an inline literal, code 0x20..0x3f
(30_encoding.md R52; 40_operands.md R83). That is the only check: every operand code is legal as operand a
and every code 0x00..0x1f as operand b (R63). A literal DESTINATION is well formed here: it is decoded and
halts the machine when it is written (40_operands.md R92). The machine's meaning is total: an ill-formed
operand b executes as a literal (log entry 8). -/

namespace Sys2Proof

/-- May this operand stand as operand b (30_encoding.md R52)? -/
def Operand.allowedAsB : Operand → Bool
  | .reg _ | .memReg _ | .regPlusNext _ | .stack | .memSp | .spPlusNext => true
  | .sp | .pc | .ex | .memNext | .next => true
  | .inline _ => false

/-- Can an instruction word hold this instruction? -/
def Instr.wellFormed (i : Instr) : Bool :=
  match i.operandB with
  | none => true
  | some b => b.allowedAsB

end Sys2Proof
end

