-- ==== Sys2Proof/Decode.lean ====
section
/-! DEFINITION. The Decoder (30_encoding.md): field extraction, `NeedsWord`, `Len`, the operand codes, the
opcode map, and the encoder written from the same tables.

Every 16-bit word decodes to exactly one instruction (R61). A LIST of words may be refused, by name: it may
be empty, or too short for the extra words its first word announces (log entry 15). -/

namespace Sys2Proof

/-! ## Fields of the instruction word -/

/-- `opcode(w) = w[4:0]` (R51). -/
def opcode (w : Word) : BitVec 5 := w.extractLsb' 0 5

/-- `opb(w) = w[9:5]` (R52). -/
def opb (w : Word) : BitVec 5 := w.extractLsb' 5 5

/-- `spc(w) = w[9:5]`, the same five bits read as the special opcode (R53). -/
def spc (w : Word) : BitVec 5 := w.extractLsb' 5 5

/-- `opa(w) = w[15:10]` (R54). -/
def opa (w : Word) : BitVec 6 := w.extractLsb' 10 6

/-- Does an operand code consume an extra word (R56)? -/
def needsWord (c : BitVec 6) : Bool :=
  (decide (0x10 ≤ c.toNat) && decide (c.toNat ≤ 0x17)) || c == 0x1a || c == 0x1e || c == 0x1f

/-- An operand-b code as a six-bit operand code (R52: its range is 0x00..0x1f). -/
def codeOfB (c : BitVec 5) : BitVec 6 := c.setWidth 6

/-- `Len(w)`: the length in words of the instruction whose first word is `w` (R57). -/
def len (w : Word) : Nat :=
  1 + (if needsWord (opa w) then 1 else 0)
    + (if opcode w ≠ Config.opcSpecial ∧ needsWord (codeOfB (opb w)) then 1 else 0)

/-! ## Registers and operand codes -/

/-- The index `i` of the register `x[i]` (10_state.md R10). -/
def Reg.index : Reg → BitVec 3
  | .a => 0 | .b => 1 | .c => 2 | .x => 3 | .y => 4 | .z => 5 | .i => 6 | .j => 7

/-- The register with a given index (10_state.md R10). -/
def Reg.ofIndex (k : BitVec 3) : Reg :=
  if k = 0 then .a else if k = 1 then .b else if k = 2 then .c else if k = 3 then .x
  else if k = 4 then .y else if k = 5 then .z else if k = 6 then .i else .j

/-- The operand a six-bit code stands for (40_operands.md R70). -/
def Operand.ofCode (c : BitVec 6) : Operand :=
  if c.toNat < 0x08 then .reg (Reg.ofIndex (c.extractLsb' 0 3))
  else if c.toNat < 0x10 then .memReg (Reg.ofIndex (c.extractLsb' 0 3))
  else if c.toNat < 0x18 then .regPlusNext (Reg.ofIndex (c.extractLsb' 0 3))
  else if c = 0x18 then .stack
  else if c = 0x19 then .memSp
  else if c = 0x1a then .spPlusNext
  else if c = 0x1b then .sp
  else if c = 0x1c then .pc
  else if c = 0x1d then .ex
  else if c = 0x1e then .memNext
  else if c = 0x1f then .next
  else .inline (c.extractLsb' 0 5)

/-- The six-bit code of an operand, from the same table. -/
def Operand.code : Operand → BitVec 6
  | .reg r => 0x00 + r.index.setWidth 6
  | .memReg r => 0x08 + r.index.setWidth 6
  | .regPlusNext r => 0x10 + r.index.setWidth 6
  | .stack => 0x18
  | .memSp => 0x19
  | .spPlusNext => 0x1a
  | .sp => 0x1b
  | .pc => 0x1c
  | .ex => 0x1d
  | .memNext => 0x1e
  | .next => 0x1f
  | .inline k => 0x20 + k.setWidth 6

/-- The five-bit operand-b code of an operand; exact for a well-formed operand b (R52). -/
def Operand.codeB (o : Operand) : BitVec 5 := o.code.setWidth 5

/-- The operand a five-bit operand-b code stands for (R52). -/
def Operand.ofCodeB (c : BitVec 5) : Operand := Operand.ofCode (codeOfB c)

/-! ## The opcode map -/

/-- The arm of the dispatch that an instruction word takes (41_step.md R105). -/
inductive Arm where
  /-- One of the twelve implemented instructions. -/
  | implemented (i : Instr)
  /-- Any other base opcode `o`, with its operands (R160). -/
  | unknownOpcode (o : BitVec 5) (b a : Operand)
  /-- Any other special opcode `c`, with its operand (R161). -/
  | unknownSpecial (c : BitVec 5) (a : Operand)
  deriving DecidableEq, Repr

/-- The dispatch on given fields under given parameters: `o` the base opcode, `b` the operand-b code or special
opcode, `a` the operand-a code (R59, R60; 41_step.md R105; 00_scope.md R5). -/
def Parameters.armOfFields (p : Parameters) (o b : BitVec 5) (a : BitVec 6) : Arm :=
  if o = Config.opcSpecial then
    if b = p.spcJsr then .implemented (.jsr (Operand.ofCode a))
    else .unknownSpecial b (Operand.ofCode a)
  else if o = p.opcSet then .implemented (.set (Operand.ofCodeB b) (Operand.ofCode a))
  else if o = p.opcAdd then .implemented (.add (Operand.ofCodeB b) (Operand.ofCode a))
  else if o = p.opcSub then .implemented (.sub (Operand.ofCodeB b) (Operand.ofCode a))
  else if o = p.opcIfb then .implemented (.ifb (Operand.ofCodeB b) (Operand.ofCode a))
  else if o = p.opcIfc then .implemented (.ifc (Operand.ofCodeB b) (Operand.ofCode a))
  else if o = p.opcIfe then .implemented (.ife (Operand.ofCodeB b) (Operand.ofCode a))
  else if o = p.opcIfn then .implemented (.ifn (Operand.ofCodeB b) (Operand.ofCode a))
  else if o = p.opcIfg then .implemented (.ifg (Operand.ofCodeB b) (Operand.ofCode a))
  else if o = p.opcIfa then .implemented (.ifa (Operand.ofCodeB b) (Operand.ofCode a))
  else if o = p.opcIfl then .implemented (.ifl (Operand.ofCodeB b) (Operand.ofCode a))
  else if o = p.opcIfu then .implemented (.ifu (Operand.ofCodeB b) (Operand.ofCode a))
  else .unknownOpcode o (Operand.ofCodeB b) (Operand.ofCode a)

/-- The dispatch of an instruction word: a function of the word and the parameters alone (41_step.md R102). -/
def Parameters.arm (p : Parameters) (w : Word) : Arm := p.armOfFields (opcode w) (opb w) (opa w)

/-- The opcode table's row of an unknown base opcode (R160). -/
def Instr.ofUnknownOpcode (o : BitVec 5) (b a : Operand) : Instr :=
  if o = 0x04 then .unknownOpcode04 b a
  else if o = 0x05 then .unknownOpcode05 b a
  else if o = 0x06 then .unknownOpcode06 b a
  else if o = 0x07 then .unknownOpcode07 b a
  else if o = 0x08 then .unknownOpcode08 b a
  else if o = 0x09 then .unknownOpcode09 b a
  else if o = 0x0a then .unknownOpcode0A b a
  else if o = 0x0b then .unknownOpcode0B b a
  else if o = 0x0c then .unknownOpcode0C b a
  else if o = 0x0d then .unknownOpcode0D b a
  else if o = 0x0e then .unknownOpcode0E b a
  else if o = 0x0f then .unknownOpcode0F b a
  else if o = 0x18 then .unknownOpcode18 b a
  else if o = 0x19 then .unknownOpcode19 b a
  else if o = 0x1a then .unknownOpcode1A b a
  else if o = 0x1b then .unknownOpcode1B b a
  else if o = 0x1c then .unknownOpcode1C b a
  else if o = 0x1d then .unknownOpcode1D b a
  else if o = 0x1e then .unknownOpcode1E b a
  else .unknownOpcode1F b a

/-- The opcode table's row of an unknown special opcode (R161). -/
def Instr.ofUnknownSpecial (c : BitVec 5) (a : Operand) : Instr :=
  if c = 0x00 then .unknownSpecial00 a
  else if c = 0x02 then .unknownSpecial02 a
  else if c = 0x03 then .unknownSpecial03 a
  else if c = 0x04 then .unknownSpecial04 a
  else if c = 0x05 then .unknownSpecial05 a
  else if c = 0x06 then .unknownSpecial06 a
  else if c = 0x07 then .unknownSpecial07 a
  else if c = 0x08 then .unknownSpecial08 a
  else if c = 0x09 then .unknownSpecial09 a
  else if c = 0x0a then .unknownSpecial0A a
  else if c = 0x0b then .unknownSpecial0B a
  else if c = 0x0c then .unknownSpecial0C a
  else if c = 0x0d then .unknownSpecial0D a
  else if c = 0x0e then .unknownSpecial0E a
  else if c = 0x0f then .unknownSpecial0F a
  else if c = 0x10 then .unknownSpecial10 a
  else if c = 0x11 then .unknownSpecial11 a
  else if c = 0x12 then .unknownSpecial12 a
  else if c = 0x13 then .unknownSpecial13 a
  else if c = 0x14 then .unknownSpecial14 a
  else if c = 0x15 then .unknownSpecial15 a
  else if c = 0x16 then .unknownSpecial16 a
  else if c = 0x17 then .unknownSpecial17 a
  else if c = 0x18 then .unknownSpecial18 a
  else if c = 0x19 then .unknownSpecial19 a
  else if c = 0x1a then .unknownSpecial1A a
  else if c = 0x1b then .unknownSpecial1B a
  else if c = 0x1c then .unknownSpecial1C a
  else if c = 0x1d then .unknownSpecial1D a
  else if c = 0x1e then .unknownSpecial1E a
  else .unknownSpecial1F a

/-- The opcode table's row of an arm of the dispatch, in the table's numbering (the decided one). -/
def Arm.instr : Arm → Instr
  | .implemented i => i
  | .unknownOpcode o b a => Instr.ofUnknownOpcode o b a
  | .unknownSpecial c a => Instr.ofUnknownSpecial c a

/-- The instruction with given fields, in the decided numbering, which is the opcode table's. -/
def decodeFields (o b : BitVec 5) (a : BitVec 6) : Instr := (Config.decided.armOfFields o b a).instr

/-- The instruction whose first word is `w`: a function of the word alone (41_step.md R102). -/
def decodeWord (w : Word) : Instr := decodeFields (opcode w) (opb w) (opa w)

/-- Why a list of words is no instruction with its extra words. -/
inductive DecodeError where
  /-- The list is empty. -/
  | noInstructionWord
  /-- The first word announces more extra words than follow it (R57). -/
  | missingExtraWords
  deriving DecidableEq, Repr

/-- Decode the head of a list of words, as it lies in memory (R58, R66): the instruction, its extra words
(operand a's first), and the rest of the list. -/
def decode (ws : List Word) : Except DecodeError (Instr × List Word × List Word) :=
  match ws with
  | [] => .error .noInstructionWord
  | w :: rest =>
    if rest.length < len w - 1 then .error .missingExtraWords
    else .ok (decodeWord w, rest.take (len w - 1), rest.drop (len w - 1))

/-! ## The encoder -/

/-- The three fields of an instruction word. -/
structure Fields where
  /-- `w[15:10]`. -/
  a : BitVec 6
  /-- `w[9:5]`: operand b, or the special opcode. -/
  b : BitVec 5
  /-- `w[4:0]`. -/
  o : BitVec 5
  deriving DecidableEq, Repr

/-- The fields of an instruction, from the opcode map (R59, R60). -/
def Instr.fields : Instr → Fields
  | .jsr a => ⟨a.code, Config.spcJsr, Config.opcSpecial⟩
  | .set b a => ⟨a.code, b.codeB, Config.opcSet⟩
  | .add b a => ⟨a.code, b.codeB, Config.opcAdd⟩
  | .sub b a => ⟨a.code, b.codeB, Config.opcSub⟩
  | .ifb b a => ⟨a.code, b.codeB, Config.opcIfb⟩
  | .ifc b a => ⟨a.code, b.codeB, Config.opcIfc⟩
  | .ife b a => ⟨a.code, b.codeB, Config.opcIfe⟩
  | .ifn b a => ⟨a.code, b.codeB, Config.opcIfn⟩
  | .ifg b a => ⟨a.code, b.codeB, Config.opcIfg⟩
  | .ifa b a => ⟨a.code, b.codeB, Config.opcIfa⟩
  | .ifl b a => ⟨a.code, b.codeB, Config.opcIfl⟩
  | .ifu b a => ⟨a.code, b.codeB, Config.opcIfu⟩
  | .unknownOpcode04 b a => ⟨a.code, b.codeB, 0x04⟩
  | .unknownOpcode05 b a => ⟨a.code, b.codeB, 0x05⟩
  | .unknownOpcode06 b a => ⟨a.code, b.codeB, 0x06⟩
  | .unknownOpcode07 b a => ⟨a.code, b.codeB, 0x07⟩
  | .unknownOpcode08 b a => ⟨a.code, b.codeB, 0x08⟩
  | .unknownOpcode09 b a => ⟨a.code, b.codeB, 0x09⟩
  | .unknownOpcode0A b a => ⟨a.code, b.codeB, 0x0a⟩
  | .unknownOpcode0B b a => ⟨a.code, b.codeB, 0x0b⟩
  | .unknownOpcode0C b a => ⟨a.code, b.codeB, 0x0c⟩
  | .unknownOpcode0D b a => ⟨a.code, b.codeB, 0x0d⟩
  | .unknownOpcode0E b a => ⟨a.code, b.codeB, 0x0e⟩
  | .unknownOpcode0F b a => ⟨a.code, b.codeB, 0x0f⟩
  | .unknownOpcode18 b a => ⟨a.code, b.codeB, 0x18⟩
  | .unknownOpcode19 b a => ⟨a.code, b.codeB, 0x19⟩
  | .unknownOpcode1A b a => ⟨a.code, b.codeB, 0x1a⟩
  | .unknownOpcode1B b a => ⟨a.code, b.codeB, 0x1b⟩
  | .unknownOpcode1C b a => ⟨a.code, b.codeB, 0x1c⟩
  | .unknownOpcode1D b a => ⟨a.code, b.codeB, 0x1d⟩
  | .unknownOpcode1E b a => ⟨a.code, b.codeB, 0x1e⟩
  | .unknownOpcode1F b a => ⟨a.code, b.codeB, 0x1f⟩
  | .unknownSpecial00 a => ⟨a.code, 0x00, Config.opcSpecial⟩
  | .unknownSpecial02 a => ⟨a.code, 0x02, Config.opcSpecial⟩
  | .unknownSpecial03 a => ⟨a.code, 0x03, Config.opcSpecial⟩
  | .unknownSpecial04 a => ⟨a.code, 0x04, Config.opcSpecial⟩
  | .unknownSpecial05 a => ⟨a.code, 0x05, Config.opcSpecial⟩
  | .unknownSpecial06 a => ⟨a.code, 0x06, Config.opcSpecial⟩
  | .unknownSpecial07 a => ⟨a.code, 0x07, Config.opcSpecial⟩
  | .unknownSpecial08 a => ⟨a.code, 0x08, Config.opcSpecial⟩
  | .unknownSpecial09 a => ⟨a.code, 0x09, Config.opcSpecial⟩
  | .unknownSpecial0A a => ⟨a.code, 0x0a, Config.opcSpecial⟩
  | .unknownSpecial0B a => ⟨a.code, 0x0b, Config.opcSpecial⟩
  | .unknownSpecial0C a => ⟨a.code, 0x0c, Config.opcSpecial⟩
  | .unknownSpecial0D a => ⟨a.code, 0x0d, Config.opcSpecial⟩
  | .unknownSpecial0E a => ⟨a.code, 0x0e, Config.opcSpecial⟩
  | .unknownSpecial0F a => ⟨a.code, 0x0f, Config.opcSpecial⟩
  | .unknownSpecial10 a => ⟨a.code, 0x10, Config.opcSpecial⟩
  | .unknownSpecial11 a => ⟨a.code, 0x11, Config.opcSpecial⟩
  | .unknownSpecial12 a => ⟨a.code, 0x12, Config.opcSpecial⟩
  | .unknownSpecial13 a => ⟨a.code, 0x13, Config.opcSpecial⟩
  | .unknownSpecial14 a => ⟨a.code, 0x14, Config.opcSpecial⟩
  | .unknownSpecial15 a => ⟨a.code, 0x15, Config.opcSpecial⟩
  | .unknownSpecial16 a => ⟨a.code, 0x16, Config.opcSpecial⟩
  | .unknownSpecial17 a => ⟨a.code, 0x17, Config.opcSpecial⟩
  | .unknownSpecial18 a => ⟨a.code, 0x18, Config.opcSpecial⟩
  | .unknownSpecial19 a => ⟨a.code, 0x19, Config.opcSpecial⟩
  | .unknownSpecial1A a => ⟨a.code, 0x1a, Config.opcSpecial⟩
  | .unknownSpecial1B a => ⟨a.code, 0x1b, Config.opcSpecial⟩
  | .unknownSpecial1C a => ⟨a.code, 0x1c, Config.opcSpecial⟩
  | .unknownSpecial1D a => ⟨a.code, 0x1d, Config.opcSpecial⟩
  | .unknownSpecial1E a => ⟨a.code, 0x1e, Config.opcSpecial⟩
  | .unknownSpecial1F a => ⟨a.code, 0x1f, Config.opcSpecial⟩

/-- The instruction word with given fields: `aaaaaabbbbbooooo` (R50). -/
def packFields (f : Fields) : Word := f.a ++ f.b ++ f.o

/-- The instruction word of an instruction. Its extra words are operand data and follow it (R58). -/
def encode (i : Instr) : Word := packFields i.fields

/-! ## The opcode table's own numbering -/

/-- The three words of an opcode-table word, the first at the lowest address; bits from `nbits` up are 0. -/
def tableWords (nbits w : Nat) : List Word :=
  [BitVec.ofNat 16 (w % 2 ^ nbits), BitVec.ofNat 16 (w % 2 ^ nbits / 65536),
   BitVec.ofNat 16 (w % 2 ^ nbits / 65536 / 65536)]

/-- The instruction the decoder reads from an opcode-table word of `nbits` bits (log entry 16). -/
def decodeTableWord (nbits w : Nat) : Option Instr :=
  match decode (tableWords nbits w) with
  | .ok (i, _, _) => some i
  | .error _ => none

end Sys2Proof
end

