-- ==== Sys2Proof/Machine/Ops.lean ====
section
/-! DEFINITION. The named operations over registers, memory and the halt record: the one home of every read
and write of State. -/

namespace Sys2Proof.Machine

/-! ## Registers (10_state.md R10, R11) -/

/-- `x[r]`. -/
def Regs.get (f : Regs) : Reg → Word
  | .a => f.a | .b => f.b | .c => f.c | .x => f.x | .y => f.y | .z => f.z | .i => f.i | .j => f.j

/-- `x[r] <- v`. -/
def Regs.set (f : Regs) (r : Reg) (v : Word) : Regs :=
  match r with
  | .a => { f with a := v } | .b => { f with b := v } | .c => { f with c := v }
  | .x => { f with x := v } | .y => { f with y := v } | .z => { f with z := v }
  | .i => { f with i := v } | .j => { f with j := v }

/-! ## Memory (20_memory.md R31, R37) -/

/-- The word a list of cells holds at an address; an unlisted address reads as `Config.unlistedWord`. -/
def lookupCell : List Cell → Nat → Word
  | [], _ => Config.unlistedWord
  | (k, v) :: rest, a => if a = k then v else lookupCell rest a

/-- List the word `v` at address `a`, keeping the addresses rising. -/
def insertCell : List Cell → Nat → Word → List Cell
  | [], a, v => [(a, v)]
  | (k, w) :: rest, a, v =>
    if a < k then (a, v) :: (k, w) :: rest
    else if a = k then (a, v) :: rest
    else (k, w) :: insertCell rest a v

/-- List nothing at address `a`. -/
def eraseCell : List Cell → Nat → List Cell
  | [], _ => []
  | (k, w) :: rest, a => if a = k then eraseCell rest a else (k, w) :: eraseCell rest a

/-- `mem[a]` (20_memory.md R31). -/
def Memory.read (m : Memory) (a : Word) : Word := lookupCell m a.toNat

/-- `mem[a] <- v`: the canonical form is kept by listing no word equal to the unlisted one. -/
def Memory.write (m : Memory) (a v : Word) : Memory :=
  if v = Config.unlistedWord then eraseCell m a.toNat else insertCell m a.toNat v

/-- The canonical form from address `lo` on. -/
def wfCellsFrom : Nat → List Cell → Bool
  | _, [] => true
  | lo, (k, v) :: rest =>
    decide (lo ≤ k) && decide (k < 65536) && decide (v ≠ Config.unlistedWord) && wfCellsFrom (k + 1) rest

/-- The canonical form of memory: addresses strictly rising and below 65536, no unlisted word listed. -/
def Memory.wf (m : Memory) : Bool := wfCellsFrom 0 m

/-! ## State updates -/

/-- `x[r]`. -/
def State.readReg (s : State) (r : Reg) : Word := s.regs.get r

/-- `x[r] <- v`. -/
def State.writeReg (s : State) (r : Reg) (v : Word) : State := { s with regs := s.regs.set r v }

/-- `pc <- v`. -/
def State.setPc (s : State) (v : Word) : State := { s with pc := v }

/-- `sp <- v`. -/
def State.setSp (s : State) (v : Word) : State := { s with sp := v }

/-- `ex <- v`. -/
def State.setEx (s : State) (v : Word) : State := { s with ex := v }

/-- `mem[a]`. -/
def State.readMem (s : State) (a : Word) : Word := s.memory.read a

/-- `mem[a] <- v`. -/
def State.writeMem (s : State) (a v : Word) : State := { s with memory := s.memory.write a v }

/-- `mem[pc]`: the next word of the instruction stream. -/
def State.wordAtPc (s : State) : Word := s.readMem s.pc

/-- `pc <- add16(pc, 1)`: one word of the instruction stream is consumed. -/
def State.advancePc (s : State) : State := s.setPc (s.pc + 1)

/-! ## Taking an exception: the halt (60_exceptions.md R173)

It is the only exceptional event of the hardware. It saves nothing, undoes nothing, transfers control nowhere,
and there is no return from it (R177); only reset leaves `Halted`. -/

/-- `raise Halt(cause, code)`: nothing written earlier in the step is undone (R173; log entry 4). -/
def State.raiseHalt (s : State) (cause : HaltCause) (code : BitVec 5) : State :=
  { s with run := .halted, haltCause := cause, haltCode := code }

/-- The number of a halt cause (10_state.md R22). -/
def HaltCause.code : HaltCause → BitVec 2
  | .none => 0
  | .unknownOpcode => 1
  | .unknownSpecialOpcode => 2
  | .literalWrite => 3

end Sys2Proof.Machine
end

