-- ==== Sys2Proof/Machine/Operands.lean ====
section
/-! DEFINITION. The Address Resolver and the Accessor Layer (40_operands.md). -/

namespace Sys2Proof.Machine

/-- A storage location: a transient value of one step, not state (00_scope.md section 5.3; 10_state.md R25). -/
inductive Loc where
  /-- A general register. -/
  | reg (r : Reg)
  | pc
  | sp
  | ex
  /-- The memory word at an address. -/
  | mem (addr : Word)
  /-- A value; not writable. -/
  | lit (v : Word)
  deriving DecidableEq, Repr

/-- The inline literal of code 0x20 + k: 0xffff for k = 0, else k - 1 (R83). -/
def inlineValue (k : BitVec 5) : Word := k.setWidth 16 - 1

/-- `Resolve(c, isA)`: the location of an operand, with the side effects on pc and sp (R70 to R84). -/
def resolve (role : Role) (o : Operand) (s : State) : Loc × State :=
  match o with
  | .reg r => (.reg r, s)
  | .memReg r => (.mem (s.readReg r), s)
  | .regPlusNext r => (.lit (s.readReg r + s.wordAtPc), s.advancePc)
  | .stack =>
    match role with
    | .a => (.mem s.sp, s.setSp (s.sp + 1))
    | .b => (.mem (s.sp - 1), s.setSp (s.sp - 1))
  | .memSp => (.mem s.sp, s)
  | .spPlusNext => (.lit (s.sp + s.wordAtPc), s.advancePc)
  | .sp => (.sp, s)
  | .pc => (.pc, s)
  | .ex => (.ex, s)
  | .memNext => (.mem s.wordAtPc, s.advancePc)
  | .next => (.lit s.wordAtPc, s.advancePc)
  | .inline k => (.lit (inlineValue k), s)

/-- The two locations of a basic instruction and the state after both resolutions. -/
structure Resolved where
  locB : Loc
  locA : Loc
  state : State
  deriving DecidableEq, Repr

/-- Operand a is resolved first, then operand b (R85; 41_step.md R103, R104). -/
def resolveBoth (b a : Operand) (s : State) : Resolved where
  locA := (resolve .a a s).1
  locB := (resolve .b b (resolve .a a s).2).1
  state := (resolve .b b (resolve .a a s).2).2

/-- `Read(loc)`: changes nothing, never faults (R90). -/
def readLoc (s : State) : Loc → Word
  | .reg r => s.readReg r
  | .pc => s.pc
  | .sp => s.sp
  | .ex => s.ex
  | .mem a => s.readMem a
  | .lit v => v

/-- `Write(loc, v)`: a write through a literal stores nothing and halts the machine (R91, R92). -/
def writeLoc (s : State) (loc : Loc) (v : Word) : State :=
  match loc with
  | .reg r => s.writeReg r v
  | .pc => s.setPc v
  | .sp => s.setSp v
  | .ex => s.setEx v
  | .mem a => s.writeMem a v
  | .lit _ => s.raiseHalt .literalWrite 0

/-- The value of operand b at dispatch. -/
def Resolved.valueB (r : Resolved) : Word := readLoc r.state r.locB

/-- The value of operand a at dispatch: a register, sp or pc is read AFTER both resolutions (R86). -/
def Resolved.valueA (r : Resolved) : Word := readLoc r.state r.locA

end Sys2Proof.Machine
end

