-- ==== Sys2Proof/Machine/Conditional.lean ====
section
/-! DEFINITION. The conditional-skip engine and the eight skip-conditionals (44_conditional_skip.md). -/

namespace Sys2Proof.Machine

/-- Step over the following instruction: `pc <- add16(pc, Len(mem[pc]))`. Its first word is read as data and
nothing of it is executed (R140, R149, R150). -/
def State.skipNext (s : State) : State := s.setPc (s.pc + BitVec.ofNat 16 (len s.wordAtPc))

/-- The engine (R140): resolve both operands in full, whatever the outcome (R151); when the predicate of
operand b's and operand a's value is false, skip exactly one instruction. -/
def skipUnless (pred : Word → Word → Bool) (b a : Operand) (s : State) : Host.Outcome State Fault Refusal :=
  let r := resolveBoth b a s
  .next (if pred r.valueB r.valueA then r.state else r.state.skipNext)

/-- IFB b, a (R141). -/
def execIfb (b a : Operand) (s : State) : Host.Outcome State Fault Refusal :=
  skipUnless predIfb b a s

/-- IFC b, a (R142). -/
def execIfc (b a : Operand) (s : State) : Host.Outcome State Fault Refusal :=
  skipUnless predIfc b a s

/-- IFE b, a (R143). -/
def execIfe (b a : Operand) (s : State) : Host.Outcome State Fault Refusal :=
  skipUnless predIfe b a s

/-- IFN b, a (R144). -/
def execIfn (b a : Operand) (s : State) : Host.Outcome State Fault Refusal :=
  skipUnless predIfn b a s

/-- IFG b, a (R145). -/
def execIfg (b a : Operand) (s : State) : Host.Outcome State Fault Refusal :=
  skipUnless predIfg b a s

/-- IFA b, a (R146). -/
def execIfa (b a : Operand) (s : State) : Host.Outcome State Fault Refusal :=
  skipUnless predIfa b a s

/-- IFL b, a (R147). -/
def execIfl (b a : Operand) (s : State) : Host.Outcome State Fault Refusal :=
  skipUnless predIfl b a s

/-- IFU b, a (R148). -/
def execIfu (b a : Operand) (s : State) : Host.Outcome State Fault Refusal :=
  skipUnless predIfu b a s

end Sys2Proof.Machine
end

