-- ==== Sys2Proof/Machine/SetAddSub.lean ====
section
/-! DEFINITION. SET, ADD, SUB (43_set_add_sub.md): the instructions that write through operand b. -/

namespace Sys2Proof.Machine

/-- Resolve both operands, compute a result from operand b's and operand a's value, write it through
operand b's location. Both reads come before the write, and the write is the last thing done (R136).
ex is written only as a destination (R133). -/
def writeResult (f : Word → Word → Word) (b a : Operand) (s : State) : Host.Outcome State Fault Refusal :=
  let r := resolveBoth b a s
  .next (writeLoc r.state r.locB (f r.valueB r.valueA))

/-- SET b, a: `Write(locB, Read(locA))` (R130). -/
def execSet (b a : Operand) (s : State) : Host.Outcome State Fault Refusal :=
  writeResult (fun _ va => va) b a s

/-- ADD b, a: `Write(locB, add16(Read(locB), Read(locA)))` (R131). -/
def execAdd (b a : Operand) (s : State) : Host.Outcome State Fault Refusal :=
  writeResult (fun vb va => vb + va) b a s

/-- SUB b, a: `Write(locB, sub16(Read(locB), Read(locA)))` (R132). -/
def execSub (b a : Operand) (s : State) : Host.Outcome State Fault Refusal :=
  writeResult (fun vb va => vb - va) b a s

end Sys2Proof.Machine
end

