-- ==== Sys2Proof/Machine/Special.lean ====
section
/-! DEFINITION. The special form's one instruction (42_special_jsr.md). -/

namespace Sys2Proof.Machine

/-- `sp <- sub16(sp, 1); mem[sp] <- v` (42_special_jsr.md R120). -/
def State.push (s : State) (v : Word) : State := (s.setSp (s.sp - 1)).writeMem (s.sp - 1) v

/-- JSR a (R120): resolve operand a, push pc, then read operand a's location and jump. UNVERIFIED: the push
comes before the read, the spec's decision D9 (log entry 19). -/
def execJsr (a : Operand) (s : State) : Host.Outcome State Fault Refusal :=
  let target := (resolve .a a s).1
  let resolved := (resolve .a a s).2
  let pushed := resolved.push resolved.pc
  .next (pushed.setPc (readLoc pushed target))

end Sys2Proof.Machine
end

