-- ==== Sys2Proof/Machine/Unimplemented.lean ====
section
/-! DEFINITION. Every other opcode: its operands are resolved, then the machine halts and reports the code
(45_unimplemented.md R160, R161; 41_step.md R106). The halt is the defined behaviour of these rows (R162),
so each is a NEXT state with `run = Halted`, and no other meaning is given to any of them.
UNVERIFIED: the operands are resolved before the halt, the spec's decision D10 (log entry 20). -/

namespace Sys2Proof.Machine

/-- An unknown base opcode `o`: resolve operand a, then operand b, then halt (R160). -/
def haltUnknownOpcode (o : BitVec 5) (b a : Operand) (s : State) : Host.Outcome State Fault Refusal :=
  .next ((resolveBoth b a s).state.raiseHalt .unknownOpcode o)

/-- An unknown special opcode `c`: resolve operand a, then halt; operand b does not exist (R161). -/
def haltUnknownSpecial (c : BitVec 5) (a : Operand) (s : State) : Host.Outcome State Fault Refusal :=
  .next ((resolve .a a s).2.raiseHalt .unknownSpecialOpcode c)

/-- UNKNOWN_OPCODE_04 (R160). -/
def execUnknownOpcode04 (b a : Operand) (s : State) : Host.Outcome State Fault Refusal :=
  haltUnknownOpcode 0x04 b a s

/-- UNKNOWN_OPCODE_05 (R160). -/
def execUnknownOpcode05 (b a : Operand) (s : State) : Host.Outcome State Fault Refusal :=
  haltUnknownOpcode 0x05 b a s

/-- UNKNOWN_OPCODE_06 (R160). -/
def execUnknownOpcode06 (b a : Operand) (s : State) : Host.Outcome State Fault Refusal :=
  haltUnknownOpcode 0x06 b a s

/-- UNKNOWN_OPCODE_07 (R160). -/
def execUnknownOpcode07 (b a : Operand) (s : State) : Host.Outcome State Fault Refusal :=
  haltUnknownOpcode 0x07 b a s

/-- UNKNOWN_OPCODE_08 (R160). -/
def execUnknownOpcode08 (b a : Operand) (s : State) : Host.Outcome State Fault Refusal :=
  haltUnknownOpcode 0x08 b a s

/-- UNKNOWN_OPCODE_09 (R160). -/
def execUnknownOpcode09 (b a : Operand) (s : State) : Host.Outcome State Fault Refusal :=
  haltUnknownOpcode 0x09 b a s

/-- UNKNOWN_OPCODE_0A (R160). -/
def execUnknownOpcode0A (b a : Operand) (s : State) : Host.Outcome State Fault Refusal :=
  haltUnknownOpcode 0x0a b a s

/-- UNKNOWN_OPCODE_0B (R160). -/
def execUnknownOpcode0B (b a : Operand) (s : State) : Host.Outcome State Fault Refusal :=
  haltUnknownOpcode 0x0b b a s

/-- UNKNOWN_OPCODE_0C (R160). -/
def execUnknownOpcode0C (b a : Operand) (s : State) : Host.Outcome State Fault Refusal :=
  haltUnknownOpcode 0x0c b a s

/-- UNKNOWN_OPCODE_0D (R160). -/
def execUnknownOpcode0D (b a : Operand) (s : State) : Host.Outcome State Fault Refusal :=
  haltUnknownOpcode 0x0d b a s

/-- UNKNOWN_OPCODE_0E (R160). -/
def execUnknownOpcode0E (b a : Operand) (s : State) : Host.Outcome State Fault Refusal :=
  haltUnknownOpcode 0x0e b a s

/-- UNKNOWN_OPCODE_0F (R160). -/
def execUnknownOpcode0F (b a : Operand) (s : State) : Host.Outcome State Fault Refusal :=
  haltUnknownOpcode 0x0f b a s

/-- UNKNOWN_OPCODE_18 (R160). -/
def execUnknownOpcode18 (b a : Operand) (s : State) : Host.Outcome State Fault Refusal :=
  haltUnknownOpcode 0x18 b a s

/-- UNKNOWN_OPCODE_19 (R160). -/
def execUnknownOpcode19 (b a : Operand) (s : State) : Host.Outcome State Fault Refusal :=
  haltUnknownOpcode 0x19 b a s

/-- UNKNOWN_OPCODE_1A (R160). -/
def execUnknownOpcode1A (b a : Operand) (s : State) : Host.Outcome State Fault Refusal :=
  haltUnknownOpcode 0x1a b a s

/-- UNKNOWN_OPCODE_1B (R160). -/
def execUnknownOpcode1B (b a : Operand) (s : State) : Host.Outcome State Fault Refusal :=
  haltUnknownOpcode 0x1b b a s

/-- UNKNOWN_OPCODE_1C (R160). -/
def execUnknownOpcode1C (b a : Operand) (s : State) : Host.Outcome State Fault Refusal :=
  haltUnknownOpcode 0x1c b a s

/-- UNKNOWN_OPCODE_1D (R160). -/
def execUnknownOpcode1D (b a : Operand) (s : State) : Host.Outcome State Fault Refusal :=
  haltUnknownOpcode 0x1d b a s

/-- UNKNOWN_OPCODE_1E (R160). -/
def execUnknownOpcode1E (b a : Operand) (s : State) : Host.Outcome State Fault Refusal :=
  haltUnknownOpcode 0x1e b a s

/-- UNKNOWN_OPCODE_1F (R160). -/
def execUnknownOpcode1F (b a : Operand) (s : State) : Host.Outcome State Fault Refusal :=
  haltUnknownOpcode 0x1f b a s

/-- UNKNOWN_SPECIAL_00 (R161). -/
def execUnknownSpecial00 (a : Operand) (s : State) : Host.Outcome State Fault Refusal :=
  haltUnknownSpecial 0x00 a s

/-- UNKNOWN_SPECIAL_02 (R161). -/
def execUnknownSpecial02 (a : Operand) (s : State) : Host.Outcome State Fault Refusal :=
  haltUnknownSpecial 0x02 a s

/-- UNKNOWN_SPECIAL_03 (R161). -/
def execUnknownSpecial03 (a : Operand) (s : State) : Host.Outcome State Fault Refusal :=
  haltUnknownSpecial 0x03 a s

/-- UNKNOWN_SPECIAL_04 (R161). -/
def execUnknownSpecial04 (a : Operand) (s : State) : Host.Outcome State Fault Refusal :=
  haltUnknownSpecial 0x04 a s

/-- UNKNOWN_SPECIAL_05 (R161). -/
def execUnknownSpecial05 (a : Operand) (s : State) : Host.Outcome State Fault Refusal :=
  haltUnknownSpecial 0x05 a s

/-- UNKNOWN_SPECIAL_06 (R161). -/
def execUnknownSpecial06 (a : Operand) (s : State) : Host.Outcome State Fault Refusal :=
  haltUnknownSpecial 0x06 a s

/-- UNKNOWN_SPECIAL_07 (R161). -/
def execUnknownSpecial07 (a : Operand) (s : State) : Host.Outcome State Fault Refusal :=
  haltUnknownSpecial 0x07 a s

/-- UNKNOWN_SPECIAL_08 (R161). -/
def execUnknownSpecial08 (a : Operand) (s : State) : Host.Outcome State Fault Refusal :=
  haltUnknownSpecial 0x08 a s

/-- UNKNOWN_SPECIAL_09 (R161). -/
def execUnknownSpecial09 (a : Operand) (s : State) : Host.Outcome State Fault Refusal :=
  haltUnknownSpecial 0x09 a s

/-- UNKNOWN_SPECIAL_0A (R161). -/
def execUnknownSpecial0A (a : Operand) (s : State) : Host.Outcome State Fault Refusal :=
  haltUnknownSpecial 0x0a a s

/-- UNKNOWN_SPECIAL_0B (R161). -/
def execUnknownSpecial0B (a : Operand) (s : State) : Host.Outcome State Fault Refusal :=
  haltUnknownSpecial 0x0b a s

/-- UNKNOWN_SPECIAL_0C (R161). -/
def execUnknownSpecial0C (a : Operand) (s : State) : Host.Outcome State Fault Refusal :=
  haltUnknownSpecial 0x0c a s

/-- UNKNOWN_SPECIAL_0D (R161). -/
def execUnknownSpecial0D (a : Operand) (s : State) : Host.Outcome State Fault Refusal :=
  haltUnknownSpecial 0x0d a s

/-- UNKNOWN_SPECIAL_0E (R161). -/
def execUnknownSpecial0E (a : Operand) (s : State) : Host.Outcome State Fault Refusal :=
  haltUnknownSpecial 0x0e a s

/-- UNKNOWN_SPECIAL_0F (R161). -/
def execUnknownSpecial0F (a : Operand) (s : State) : Host.Outcome State Fault Refusal :=
  haltUnknownSpecial 0x0f a s

/-- UNKNOWN_SPECIAL_10 (R161). -/
def execUnknownSpecial10 (a : Operand) (s : State) : Host.Outcome State Fault Refusal :=
  haltUnknownSpecial 0x10 a s

/-- UNKNOWN_SPECIAL_11 (R161). -/
def execUnknownSpecial11 (a : Operand) (s : State) : Host.Outcome State Fault Refusal :=
  haltUnknownSpecial 0x11 a s

/-- UNKNOWN_SPECIAL_12 (R161). -/
def execUnknownSpecial12 (a : Operand) (s : State) : Host.Outcome State Fault Refusal :=
  haltUnknownSpecial 0x12 a s

/-- UNKNOWN_SPECIAL_13 (R161). -/
def execUnknownSpecial13 (a : Operand) (s : State) : Host.Outcome State Fault Refusal :=
  haltUnknownSpecial 0x13 a s

/-- UNKNOWN_SPECIAL_14 (R161). -/
def execUnknownSpecial14 (a : Operand) (s : State) : Host.Outcome State Fault Refusal :=
  haltUnknownSpecial 0x14 a s

/-- UNKNOWN_SPECIAL_15 (R161). -/
def execUnknownSpecial15 (a : Operand) (s : State) : Host.Outcome State Fault Refusal :=
  haltUnknownSpecial 0x15 a s

/-- UNKNOWN_SPECIAL_16 (R161). -/
def execUnknownSpecial16 (a : Operand) (s : State) : Host.Outcome State Fault Refusal :=
  haltUnknownSpecial 0x16 a s

/-- UNKNOWN_SPECIAL_17 (R161). -/
def execUnknownSpecial17 (a : Operand) (s : State) : Host.Outcome State Fault Refusal :=
  haltUnknownSpecial 0x17 a s

/-- UNKNOWN_SPECIAL_18 (R161). -/
def execUnknownSpecial18 (a : Operand) (s : State) : Host.Outcome State Fault Refusal :=
  haltUnknownSpecial 0x18 a s

/-- UNKNOWN_SPECIAL_19 (R161). -/
def execUnknownSpecial19 (a : Operand) (s : State) : Host.Outcome State Fault Refusal :=
  haltUnknownSpecial 0x19 a s

/-- UNKNOWN_SPECIAL_1A (R161). -/
def execUnknownSpecial1A (a : Operand) (s : State) : Host.Outcome State Fault Refusal :=
  haltUnknownSpecial 0x1a a s

/-- UNKNOWN_SPECIAL_1B (R161). -/
def execUnknownSpecial1B (a : Operand) (s : State) : Host.Outcome State Fault Refusal :=
  haltUnknownSpecial 0x1b a s

/-- UNKNOWN_SPECIAL_1C (R161). -/
def execUnknownSpecial1C (a : Operand) (s : State) : Host.Outcome State Fault Refusal :=
  haltUnknownSpecial 0x1c a s

/-- UNKNOWN_SPECIAL_1D (R161). -/
def execUnknownSpecial1D (a : Operand) (s : State) : Host.Outcome State Fault Refusal :=
  haltUnknownSpecial 0x1d a s

/-- UNKNOWN_SPECIAL_1E (R161). -/
def execUnknownSpecial1E (a : Operand) (s : State) : Host.Outcome State Fault Refusal :=
  haltUnknownSpecial 0x1e a s

/-- UNKNOWN_SPECIAL_1F (R161). -/
def execUnknownSpecial1F (a : Operand) (s : State) : Host.Outcome State Fault Refusal :=
  haltUnknownSpecial 0x1f a s

end Sys2Proof.Machine
end

