-- ==== Sys2Proof/Machine/Dispatch.lean ====
section
/-! DEFINITION. exec: one arm per instruction, each one direct call of its meaning (41_step.md R105). -/

namespace Sys2Proof.Machine

def exec (i : Instr) (s : State) : Host.Outcome State Fault Refusal :=
  match i with
  | .jsr a => Sys2Proof.Machine.execJsr a s
  | .set b a => Sys2Proof.Machine.execSet b a s
  | .add b a => Sys2Proof.Machine.execAdd b a s
  | .sub b a => Sys2Proof.Machine.execSub b a s
  | .ifb b a => Sys2Proof.Machine.execIfb b a s
  | .ifc b a => Sys2Proof.Machine.execIfc b a s
  | .ife b a => Sys2Proof.Machine.execIfe b a s
  | .ifn b a => Sys2Proof.Machine.execIfn b a s
  | .ifg b a => Sys2Proof.Machine.execIfg b a s
  | .ifa b a => Sys2Proof.Machine.execIfa b a s
  | .ifl b a => Sys2Proof.Machine.execIfl b a s
  | .ifu b a => Sys2Proof.Machine.execIfu b a s
  | .unknownOpcode04 b a => Sys2Proof.Machine.execUnknownOpcode04 b a s
  | .unknownOpcode05 b a => Sys2Proof.Machine.execUnknownOpcode05 b a s
  | .unknownOpcode06 b a => Sys2Proof.Machine.execUnknownOpcode06 b a s
  | .unknownOpcode07 b a => Sys2Proof.Machine.execUnknownOpcode07 b a s
  | .unknownOpcode08 b a => Sys2Proof.Machine.execUnknownOpcode08 b a s
  | .unknownOpcode09 b a => Sys2Proof.Machine.execUnknownOpcode09 b a s
  | .unknownOpcode0A b a => Sys2Proof.Machine.execUnknownOpcode0A b a s
  | .unknownOpcode0B b a => Sys2Proof.Machine.execUnknownOpcode0B b a s
  | .unknownOpcode0C b a => Sys2Proof.Machine.execUnknownOpcode0C b a s
  | .unknownOpcode0D b a => Sys2Proof.Machine.execUnknownOpcode0D b a s
  | .unknownOpcode0E b a => Sys2Proof.Machine.execUnknownOpcode0E b a s
  | .unknownOpcode0F b a => Sys2Proof.Machine.execUnknownOpcode0F b a s
  | .unknownOpcode18 b a => Sys2Proof.Machine.execUnknownOpcode18 b a s
  | .unknownOpcode19 b a => Sys2Proof.Machine.execUnknownOpcode19 b a s
  | .unknownOpcode1A b a => Sys2Proof.Machine.execUnknownOpcode1A b a s
  | .unknownOpcode1B b a => Sys2Proof.Machine.execUnknownOpcode1B b a s
  | .unknownOpcode1C b a => Sys2Proof.Machine.execUnknownOpcode1C b a s
  | .unknownOpcode1D b a => Sys2Proof.Machine.execUnknownOpcode1D b a s
  | .unknownOpcode1E b a => Sys2Proof.Machine.execUnknownOpcode1E b a s
  | .unknownOpcode1F b a => Sys2Proof.Machine.execUnknownOpcode1F b a s
  | .unknownSpecial00 a => Sys2Proof.Machine.execUnknownSpecial00 a s
  | .unknownSpecial02 a => Sys2Proof.Machine.execUnknownSpecial02 a s
  | .unknownSpecial03 a => Sys2Proof.Machine.execUnknownSpecial03 a s
  | .unknownSpecial04 a => Sys2Proof.Machine.execUnknownSpecial04 a s
  | .unknownSpecial05 a => Sys2Proof.Machine.execUnknownSpecial05 a s
  | .unknownSpecial06 a => Sys2Proof.Machine.execUnknownSpecial06 a s
  | .unknownSpecial07 a => Sys2Proof.Machine.execUnknownSpecial07 a s
  | .unknownSpecial08 a => Sys2Proof.Machine.execUnknownSpecial08 a s
  | .unknownSpecial09 a => Sys2Proof.Machine.execUnknownSpecial09 a s
  | .unknownSpecial0A a => Sys2Proof.Machine.execUnknownSpecial0A a s
  | .unknownSpecial0B a => Sys2Proof.Machine.execUnknownSpecial0B a s
  | .unknownSpecial0C a => Sys2Proof.Machine.execUnknownSpecial0C a s
  | .unknownSpecial0D a => Sys2Proof.Machine.execUnknownSpecial0D a s
  | .unknownSpecial0E a => Sys2Proof.Machine.execUnknownSpecial0E a s
  | .unknownSpecial0F a => Sys2Proof.Machine.execUnknownSpecial0F a s
  | .unknownSpecial10 a => Sys2Proof.Machine.execUnknownSpecial10 a s
  | .unknownSpecial11 a => Sys2Proof.Machine.execUnknownSpecial11 a s
  | .unknownSpecial12 a => Sys2Proof.Machine.execUnknownSpecial12 a s
  | .unknownSpecial13 a => Sys2Proof.Machine.execUnknownSpecial13 a s
  | .unknownSpecial14 a => Sys2Proof.Machine.execUnknownSpecial14 a s
  | .unknownSpecial15 a => Sys2Proof.Machine.execUnknownSpecial15 a s
  | .unknownSpecial16 a => Sys2Proof.Machine.execUnknownSpecial16 a s
  | .unknownSpecial17 a => Sys2Proof.Machine.execUnknownSpecial17 a s
  | .unknownSpecial18 a => Sys2Proof.Machine.execUnknownSpecial18 a s
  | .unknownSpecial19 a => Sys2Proof.Machine.execUnknownSpecial19 a s
  | .unknownSpecial1A a => Sys2Proof.Machine.execUnknownSpecial1A a s
  | .unknownSpecial1B a => Sys2Proof.Machine.execUnknownSpecial1B a s
  | .unknownSpecial1C a => Sys2Proof.Machine.execUnknownSpecial1C a s
  | .unknownSpecial1D a => Sys2Proof.Machine.execUnknownSpecial1D a s
  | .unknownSpecial1E a => Sys2Proof.Machine.execUnknownSpecial1E a s
  | .unknownSpecial1F a => Sys2Proof.Machine.execUnknownSpecial1F a s

end Sys2Proof.Machine
end

