-- ==== Sys2Proof/Machine/Fetch.lean ====
section
/-! DEFINITION. Fetching an instruction word (41_step.md R101). -/

namespace Sys2Proof.Machine

/-- `w = mem[pc]` (R101). The fetch cannot fault (20_memory.md R32). -/
def State.fetchWord (s : State) : Word := s.wordAtPc

/-- `pc <- add16(pc, 1)`: the state an instruction is executed in (R101; log entry 7). -/
def State.afterFetch (s : State) : State := s.advancePc

/-- Store words at consecutive addresses, wrapping modulo 65536. -/
def Memory.writeWords (m : Memory) (a : Word) : List Word → Memory
  | [] => m
  | w :: ws => Memory.writeWords (m.write a w) (a + 1) ws

/-- `s` with words laid out where the next step fetches, and able to fetch: running, with no halt recorded
(log entry 11). -/
def State.placeAtPc (s : State) (ws : List Word) : State :=
  { s with memory := s.memory.writeWords s.pc ws, run := .running, haltCause := .none, haltCode := 0 }

end Sys2Proof.Machine
end

