-- ==== Sys2Proof/Machine/Step.lean ====
section
/-! DEFINITION. One step of the Execution Engine (41_step.md R100 to R107). -/

namespace Sys2Proof.Machine

/-- In `Running`: fetch, decode, and execute (operands are resolved inside the meaning, before its dispatch
effect, R106). In `Halted` no step exists (R100; log entries 3, 9). -/
def step (s : State) : Host.Outcome State Fault Refusal :=
  match s.run with
  | .running => exec (decodeWord s.fetchWord) s.afterFetch
  | .halted => .fault .noStepWhenHalted

/-- `s` with an opcode-table word (and zero words above it, up to the longest instruction) stored where the
next step fetches (log entries 10, 11). -/
def State.withFetchWord (s : State) (nbits w : Nat) : State := s.placeAtPc (tableWords nbits w)

end Sys2Proof.Machine
end

