-- ==== Sys2Proof/Machine/Configured.lean ====
section
/-! DEFINITION. The machine under given parameters (00_scope.md R5): the same meanings, with the opcode numbers
taken as an argument. `step` is this machine at `Config.decided` (a statement says so). -/

namespace Sys2Proof.Machine

/-- The effect of an arm of the dispatch (41_step.md R105). -/
def execArm (arm : Arm) (s : State) : Host.Outcome State Fault Refusal :=
  match arm with
  | .implemented i => exec i s
  | .unknownOpcode o b a => haltUnknownOpcode o b a s
  | .unknownSpecial c a => haltUnknownSpecial c a s

/-- One step under given parameters (41_step.md R100 to R107); in `Halted` no step exists (log entry 3). -/
def stepWith (p : Parameters) (s : State) : Host.Outcome State Fault Refusal :=
  match s.run with
  | .running => execArm (p.arm s.fetchWord) s.afterFetch
  | .halted => .fault .noStepWhenHalted

end Sys2Proof.Machine
end

