-- ==== Sys2Proof/Machine/Launch.lean ====
section
/-! DEFINITION. The host interface: loading an image and reset (70_reset_and_hazards.md R190 to R198).

These are the host's moves between runs; the machine's `step` takes no input (R198, decision D14; log
entry 13). -/

namespace Sys2Proof.Machine

/-- The words of an image from address `a` on, as canonical cells. -/
def cellsOfImageFrom (a : Nat) : List Word → List Cell
  | [] => []
  | w :: ws =>
    if w = Config.unlistedWord then cellsOfImageFrom (a + 1) ws else (a, w) :: cellsOfImageFrom (a + 1) ws

/-- `MEM_INIT`: word `k` of the image at address `k`, 0x0000 at every other address (R196; 10_state.md R26). -/
def Memory.ofImage (image : List Word) : Memory := cellsOfImageFrom 0 image

/-- The state a run starts in with the decided parameters: reset with the image loaded. An image longer than the memory is rejected
(R190, R196, R197; log entry 14). -/
def State.launch (image : List Word) : Option State :=
  if image.length ≤ 65536 then some { State.reset with memory := Memory.ofImage image } else none

/-- The whole of memory at the start of a run under given parameters: the image, and `MEM_INIT` at every address
after it (R196; 10_state.md R26). -/
def memoryWords (p : Parameters) (image : List Word) : List Word :=
  image ++ (List.range' image.length (65536 - image.length)).map fun a => p.outsideImage (BitVec.ofNat 16 a)

/-- The state a run starts in under given parameters (00_scope.md R5). -/
def State.launchWith (p : Parameters) (image : List Word) : Option State :=
  if image.length ≤ 65536 then some { State.reset with memory := Memory.ofImage (memoryWords p image) } else none

/-- Reset at any time, the only way out of `Halted`: nothing of the earlier state survives and the image is
loaded again (R190, decision D16; log entry 14). -/
def State.restart (_earlier : State) (image : List Word) : Option State := State.launch image

/-- One word of an image file, from its two bytes in file order (20_memory.md R34). -/
def imageWord (order : Config.ByteOrder) (first second : Byte) : Word :=
  match order with
  | .bigEndian => first ++ second
  | .littleEndian => second ++ first

/-- The words of an image file in a given byte order (20_memory.md R34). A file with half a word left over is
rejected (log entry 12). -/
def wordsInOrder (order : Config.ByteOrder) : List Byte → Option (List Word)
  | [] => some []
  | [_] => none
  | first :: second :: rest => (wordsInOrder order rest).map (imageWord order first second :: ·)

/-- The words of an image file in the decided order. -/
def wordsOfImageFile (bytes : List Byte) : Option (List Word) := wordsInOrder Config.imageByteOrder bytes

end Sys2Proof.Machine
end

