-- ==== Sys2Proof/Safety.lean ====
section
/-! DEFINITION. The terms claims are stated in: what an operand does to pc and sp, when a word halts the
machine, what a well-formed state is, and which states a run reaches. -/

namespace Sys2Proof

/-- Does resolving this operand consume an extra word (30_encoding.md R56)? -/
def Operand.takesWord : Operand → Bool
  | .regPlusNext _ | .spPlusNext | .memNext | .next => true
  | .reg _ | .memReg _ | .stack | .memSp | .sp | .pc | .ex | .inline _ => false

/-- What resolving this operand adds to pc (40_operands.md R84). -/
def Operand.pcMove (o : Operand) : Word := if o.takesWord then 1 else 0

/-- What resolving this operand adds to sp (40_operands.md R84): code 0x18 pops as operand a, pushes as
operand b; no other code moves sp. -/
def Operand.spMove (role : Role) : Operand → Word
  | .stack => match role with
    | .a => 1
    | .b => 0xffff
  | .reg _ | .memReg _ | .regPlusNext _ | .memSp | .spPlusNext | .sp | .pc | .ex | .memNext | .next
  | .inline _ => 0

/-- Does this operand resolve to a literal, which cannot be written (40_operands.md R84)? -/
def Operand.isLiteral : Operand → Bool
  | .regPlusNext _ | .spPlusNext | .next | .inline _ => true
  | .reg _ | .memReg _ | .stack | .memSp | .sp | .pc | .ex | .memNext => false

/-- Is this a write through operand `b`: SET, ADD or SUB (40_operands.md R92)? -/
def Instr.writesThrough (i : Instr) (b : Operand) : Prop :=
  ∃ a, i = .set b a ∨ i = .add b a ∨ i = .sub b a

/-- The operand-b codes that resolve to a literal (40_operands.md R92). -/
def literalCodesB : List (BitVec 5) :=
  [0x10, 0x11, 0x12, 0x13, 0x14, 0x15, 0x16, 0x17, 0x1a, 0x1f]

/-- The three instructions that write through operand b (43_set_add_sub.md). -/
def writeInstrs : List (Operand → Operand → Instr) := [.set, .add, .sub]

/-- The same three, each with the value it writes, of operand b's and operand a's value (43_set_add_sub.md). -/
def writeOps : List ((Operand → Operand → Instr) × (Word → Word → Word)) :=
  [(.set, fun _ va => va), (.add, fun vb va => vb + va), (.sub, fun vb va => vb - va)]

/-- The eight skip-conditionals, each with its predicate of operand b's and operand a's value
(44_conditional_skip.md R141 to R148). -/
def conditionals : List ((Operand → Operand → Instr) × (Word → Word → Bool)) :=
  [(.ifb, Machine.predIfb), (.ifc, Machine.predIfc), (.ife, Machine.predIfe), (.ifn, Machine.predIfn),
   (.ifg, Machine.predIfg), (.ifa, Machine.predIfa), (.ifl, Machine.predIfl), (.ifu, Machine.predIfu)]

/-- The 11 implemented base opcodes under given parameters, with their instructions (30_encoding.md R59). -/
def Parameters.basicRows (p : Parameters) : List (BitVec 5 × (Operand → Operand → Instr)) :=
  [(p.opcSet, .set), (p.opcAdd, .add), (p.opcSub, .sub), (p.opcIfb, .ifb), (p.opcIfc, .ifc), (p.opcIfe, .ife),
   (p.opcIfn, .ifn), (p.opcIfg, .ifg), (p.opcIfa, .ifa), (p.opcIfl, .ifl), (p.opcIfu, .ifu)]

/-- The 11 implemented base opcodes in the opcode table's numbering (30_encoding.md R59). -/
def basicRows : List (BitVec 5 × (Operand → Operand → Instr)) :=
  [(0x01, .set), (0x02, .add), (0x03, .sub),
   (0x10, .ifb), (0x11, .ifc), (0x12, .ife), (0x13, .ifn),
   (0x14, .ifg), (0x15, .ifa), (0x16, .ifl), (0x17, .ifu)]

/-- The 20 unknown base opcodes (45_unimplemented.md R160). -/
def unknownBasicRows : List (BitVec 5 × (Operand → Operand → Instr)) :=
  [(0x04, .unknownOpcode04), (0x05, .unknownOpcode05),
   (0x06, .unknownOpcode06), (0x07, .unknownOpcode07),
   (0x08, .unknownOpcode08), (0x09, .unknownOpcode09),
   (0x0a, .unknownOpcode0A), (0x0b, .unknownOpcode0B),
   (0x0c, .unknownOpcode0C), (0x0d, .unknownOpcode0D),
   (0x0e, .unknownOpcode0E), (0x0f, .unknownOpcode0F),
   (0x18, .unknownOpcode18), (0x19, .unknownOpcode19),
   (0x1a, .unknownOpcode1A), (0x1b, .unknownOpcode1B),
   (0x1c, .unknownOpcode1C), (0x1d, .unknownOpcode1D),
   (0x1e, .unknownOpcode1E), (0x1f, .unknownOpcode1F)]

/-- The 31 unknown special opcodes (45_unimplemented.md R161). -/
def unknownSpecialRows : List (BitVec 5 × (Operand → Instr)) :=
  [(0x00, .unknownSpecial00), (0x02, .unknownSpecial02),
   (0x03, .unknownSpecial03), (0x04, .unknownSpecial04),
   (0x05, .unknownSpecial05), (0x06, .unknownSpecial06),
   (0x07, .unknownSpecial07), (0x08, .unknownSpecial08),
   (0x09, .unknownSpecial09), (0x0a, .unknownSpecial0A),
   (0x0b, .unknownSpecial0B), (0x0c, .unknownSpecial0C),
   (0x0d, .unknownSpecial0D), (0x0e, .unknownSpecial0E),
   (0x0f, .unknownSpecial0F), (0x10, .unknownSpecial10),
   (0x11, .unknownSpecial11), (0x12, .unknownSpecial12),
   (0x13, .unknownSpecial13), (0x14, .unknownSpecial14),
   (0x15, .unknownSpecial15), (0x16, .unknownSpecial16),
   (0x17, .unknownSpecial17), (0x18, .unknownSpecial18),
   (0x19, .unknownSpecial19), (0x1a, .unknownSpecial1A),
   (0x1b, .unknownSpecial1B), (0x1c, .unknownSpecial1C),
   (0x1d, .unknownSpecial1D), (0x1e, .unknownSpecial1E),
   (0x1f, .unknownSpecial1F)]

namespace Machine

/-- Which halt condition an instruction word raises, if any, under given parameters (60_exceptions.md R170): the
cause and the code. -/
def haltOfWordWith (p : Parameters) (w : Word) : Option (HaltCause × BitVec 5) :=
  if opcode w = Config.opcSpecial then
    if spc w = p.spcJsr then none else some (.unknownSpecialOpcode, spc w)
  else if opcode w ∈ p.implementedBase then
    if opcode w ∈ [p.opcSet, p.opcAdd, p.opcSub] ∧ opb w ∈ literalCodesB then some (.literalWrite, 0)
    else none
  else some (.unknownOpcode, opcode w)

/-- Which halt condition an instruction word raises, if any, with the decided numbers. -/
def haltOfWord (w : Word) : Option (HaltCause × BitVec 5) := haltOfWordWith Config.decided w

/-- The halt record agrees with the run state (10_state.md R21 to R23): no cause and code 0 while running;
a halted machine has a cause, and the code is one the cause can report. -/
def State.haltRecordWf (s : State) : Bool :=
  match s.haltCause with
  | .none => decide (s.run = .running) && decide (s.haltCode = 0)
  | .unknownOpcode =>
    decide (s.run = .halted) && decide (s.haltCode ≠ Config.opcSpecial)
      && decide (s.haltCode ∉ Config.implementedBase)
  | .unknownSpecialOpcode => decide (s.run = .halted) && decide (s.haltCode ≠ Config.spcJsr)
  | .literalWrite => decide (s.run = .halted) && decide (s.haltCode = 0)

/-- The invariant of the machine: memory in its canonical form, and a halt record that agrees with `run`. -/
def State.Inv (s : State) : Prop := s.memory.wf = true ∧ s.haltRecordWf = true

/-- The states a run can reach: from a launched image by steps (70_reset_and_hazards.md R190, R196). -/
inductive Reachable : State → Prop
  | launched (image : List Word) (s : State) : State.launch image = some s → Reachable s
  | stepped (s t : State) : Reachable s → step s = .next t → Reachable t

/-- The ordinary end of a run: the machine ran into a zero word (70_reset_and_hazards.md R200). A
`LiteralWrite` is never an ordinary end (60_exceptions.md section 5). -/
def State.EndedOrdinarily (s : State) : Prop :=
  s.run = .halted ∧ s.haltCause = .unknownSpecialOpcode ∧ s.haltCode = 0

/-- Safe so far: the machine has not written through a literal (60_exceptions.md R174). -/
def State.Safe (s : State) : Prop := s.haltCause ≠ .literalWrite

end Machine

end Sys2Proof
end

