-- ==== Sys2Proof/Safety/Reference.lean ====
section
/-! DEFINITION. The whole step as ONE piece of pseudocode, transcribed from 41_step.md R107 with the raw
numbers of the instruction word, for the claim that the machine's step is this step.

It shares only the state type and the reading and writing of a memory word with the machine: it knows no
`Instr`, no `Operand`, and no decoder of the model. -/

namespace Sys2Proof.Reference

open Sys2Proof.Machine

/-- `x[i]` (10_state.md R10). -/
def reg (s : State) : Nat → Word
  | 0 => s.regs.a | 1 => s.regs.b | 2 => s.regs.c | 3 => s.regs.x
  | 4 => s.regs.y | 5 => s.regs.z | 6 => s.regs.i | _ => s.regs.j

/-- `x[i] <- v`. -/
def setReg (s : State) (i : Nat) (v : Word) : State :=
  match i with
  | 0 => { s with regs.a := v } | 1 => { s with regs.b := v } | 2 => { s with regs.c := v }
  | 3 => { s with regs.x := v } | 4 => { s with regs.y := v } | 5 => { s with regs.z := v }
  | 6 => { s with regs.i := v } | _ => { s with regs.j := v }

/-- `Loc` of 00_scope.md section 5.3, registers by number. -/
inductive Place where
  | reg (i : Nat)
  | pc
  | sp
  | ex
  | mem (addr : Word)
  | lit (v : Word)
  deriving DecidableEq, Repr

/-- `Resolve(c, isA)`, the table of 40_operands.md R70 by code number. -/
def resolve (c : Nat) (isA : Bool) (s : State) : Place × State :=
  let n := s.memory.read s.pc
  let consumed := { s with pc := s.pc + 1 }
  if c ≤ 0x07 then (.reg c, s)
  else if c ≤ 0x0f then (.mem (reg s (c - 0x08)), s)
  else if c ≤ 0x17 then (.lit (reg s (c - 0x10) + n), consumed)
  else if c = 0x18 then
    if isA then (.mem s.sp, { s with sp := s.sp + 1 })
    else (.mem (s.sp - 1), { s with sp := s.sp - 1 })
  else if c = 0x19 then (.mem s.sp, s)
  else if c = 0x1a then (.lit (s.sp + n), consumed)
  else if c = 0x1b then (.sp, s)
  else if c = 0x1c then (.pc, s)
  else if c = 0x1d then (.ex, s)
  else if c = 0x1e then (.mem n, consumed)
  else if c = 0x1f then (.lit n, consumed)
  else (.lit (if c = 0x20 then 0xffff else BitVec.ofNat 16 (c - 0x21)), s)

/-- `Read(loc)` (40_operands.md R90). -/
def read (s : State) : Place → Word
  | .reg i => reg s i
  | .pc => s.pc
  | .sp => s.sp
  | .ex => s.ex
  | .mem a => s.memory.read a
  | .lit v => v

/-- `raise Halt(cause, code)` (60_exceptions.md R173). -/
def halt (s : State) (cause : HaltCause) (code : Nat) : State :=
  { s with run := .halted, haltCause := cause, haltCode := BitVec.ofNat 5 code }

/-- `Write(loc, v)` (40_operands.md R91). -/
def write (s : State) (p : Place) (v : Word) : State :=
  match p with
  | .reg i => setReg s i v
  | .pc => { s with pc := v }
  | .sp => { s with sp := v }
  | .ex => { s with ex := v }
  | .mem a => { s with memory := s.memory.write a v }
  | .lit _ => halt s .literalWrite 0

/-- `NeedsWord(c)` (30_encoding.md R56). -/
def needsWord (c : Nat) : Bool :=
  (0x10 ≤ c && c ≤ 0x17) || c == 0x1a || c == 0x1e || c == 0x1f

/-- `Len(w)` (30_encoding.md R57). -/
def len (w : Nat) : Nat :=
  1 + (if needsWord (w / 1024) then 1 else 0)
    + (if w % 32 ≠ 0 ∧ needsWord (w / 32 % 32) then 1 else 0)

/-- `Pred_o(vb, va)` for the base opcodes of the skip-conditionals (44_conditional_skip.md R141 to R148); signed
comparisons by the two's-complement reading of a word. -/
def holds (p : Parameters) (o : Nat) (vb va : Word) : Bool :=
  if o = p.opcIfb.toNat then decide (vb &&& va ≠ 0)
  else if o = p.opcIfc.toNat then decide (vb &&& va = 0)
  else if o = p.opcIfe.toNat then decide (vb = va)
  else if o = p.opcIfn.toNat then decide (vb ≠ va)
  else if o = p.opcIfg.toNat then decide (vb > va)
  else if o = p.opcIfa.toNat then decide (vb.toInt > va.toInt)
  else if o = p.opcIfl.toNat then decide (vb < va)
  else decide (vb.toInt < va.toInt)

/-- Is `o` one of `OPC_IFB` .. `OPC_IFU`? -/
def isConditional (p : Parameters) (o : Nat) : Bool :=
  o == p.opcIfb.toNat || o == p.opcIfc.toNat || o == p.opcIfe.toNat || o == p.opcIfn.toNat
    || o == p.opcIfg.toNat || o == p.opcIfa.toNat || o == p.opcIfl.toNat || o == p.opcIfu.toNat

/-- The step of a running machine (41_step.md R107) under given parameters. -/
def step (p : Parameters) (s : State) : State :=
  let w := (s.memory.read s.pc).toNat
  let s := { s with pc := s.pc + 1 }
  let o := w % 32
  let b := w / 32 % 32
  let a := w / 1024
  let (locA, s) := resolve a true s
  if o = 0 then
    if b = p.spcJsr.toNat then
      let s := { s with sp := s.sp - 1 }
      let s := { s with memory := s.memory.write s.sp s.pc }
      { s with pc := read s locA }
    else halt s .unknownSpecialOpcode b
  else
    let (locB, s) := resolve b false s
    if o = p.opcSet.toNat then write s locB (read s locA)
    else if o = p.opcAdd.toNat then write s locB (read s locB + read s locA)
    else if o = p.opcSub.toNat then write s locB (read s locB - read s locA)
    else if isConditional p o then
      if holds p o (read s locB) (read s locA) then s
      else { s with pc := s.pc + BitVec.ofNat 16 (len (s.memory.read s.pc).toNat) }
    else halt s .unknownOpcode o

end Sys2Proof.Reference
end

