-- ==== Sys2Proof/Certificates/Slice0/Obligations.lean ====
section
/-! DEFINITION. The statements for the provers. A docstring names the spec's sentence a statement formalises.

The meaning of an instruction runs in the state after the fetch (log entry 7): `s.pc` there is the address of
the word after the instruction word. -/

open Sys2Proof Sys2Proof.Machine

/-! ## Reset, load, and the invariant -/

/-- 10_state.md section 7: the state a run starts in, for every value of the parameters: every register, pc, sp and
ex 0, running, no halt recorded, the image from address 0, and `MEM_INIT` outside it. With the decided value of
`MEM_INIT` the words outside the image are 0. Registers, pc, sp and ex are the source's; the zero outside the
image and the halt record are the spec's decisions D6 and D7 (log entries 1 and 4). -/
def Obligations.LaunchStateIsResetStateWithImage : Prop :=
  (∀ image : List Word, image.length ≤ 65536 → ∃ s, State.launch image = some s ∧
    (∀ r, s.readReg r = 0) ∧ s.pc = 0 ∧ s.sp = 0 ∧ s.ex = 0 ∧
    s.run = .running ∧ s.haltCause = .none ∧ s.haltCode = 0 ∧
    ∀ a : Word, s.readMem a = image.getD a.toNat 0) ∧
  ∀ (p : Parameters) (image : List Word), image.length ≤ 65536 → ∃ s, State.launchWith p image = some s ∧
    (∀ r, s.readReg r = 0) ∧ s.pc = 0 ∧ s.sp = 0 ∧ s.ex = 0 ∧
    s.run = .running ∧ s.haltCause = .none ∧ s.haltCode = 0 ∧
    ∀ a : Word, s.readMem a = if h : a.toNat < image.length then image[a.toNat] else p.outsideImage a

/-- 70_reset_and_hazards.md section 2 (decision D12: reject; log entry 14) and section 1 (decision D16: reset at any
time). An empty image is legal and gives `State.reset`. -/
def Obligations.LongImageIsRejectedAndResetForgets : Prop :=
  (∀ image : List Word, 65536 < image.length → State.launch image = none) ∧
  (∀ (p : Parameters) (image : List Word), 65536 < image.length → State.launchWith p image = none) ∧
  State.launch [] = some State.reset ∧
  ∀ (earlier : State) (image : List Word), earlier.restart image = State.launch image

/-- 70_reset_and_hazards.md section 1: after reset pc is 0 and the first step fetches `mem[0]` as an instruction.
That `mem[0]` is word 0 of the image is the load (log entry 10), and that it is 0 for an empty image is the spec's
decision D6 (log entry 1). -/
def Obligations.FirstStepRunsWordZero : Prop :=
  ∀ (image : List Word) (s : State), State.launch image = some s →
    s.pc = 0 ∧ step s = exec (decodeWord (s.readMem 0)) { s with pc := 1 } ∧ s.readMem 0 = image.getD 0 0

/-- The invariant holds at reset. -/
def Obligations.ResetMeetsInvariant : Prop := State.reset.Inv

/-- The invariant holds in every state a run can start in, for every value of the parameters. -/
def Obligations.LaunchMeetsInvariant : Prop :=
  (∀ (image : List Word) (s : State), State.launch image = some s → s.Inv) ∧
  ∀ (p : Parameters) (image : List Word) (s : State), State.launchWith p image = some s → s.Inv

/-- Every step keeps the invariant: memory in canonical form, the halt record agreeing with `run`
(10_state.md section 5; the memory form is the model's, log entry 5). -/
def Obligations.StepKeepsInvariant : Prop :=
  ∀ s t : State, s.Inv → step s = .next t → t.Inv

/-- 20_memory.md section 4: a read returns the word last written to its address, and a write changes that
word and nothing else; a memory with nothing listed reads as zero. -/
def Obligations.MemoryReadsLastWrittenWord : Prop :=
  (∀ (m : Memory) (a b v : Word), (m.write a v).read b = if b = a then v else m.read b) ∧
  ∀ a : Word, Memory.read [] a = 0

/-- Equal memories are equal data: the canonical form (log entry 5) is unique. -/
def Obligations.CanonicalMemoryIsUnique : Prop :=
  ∀ m n : Memory, m.wf = true → n.wf = true → (∀ a : Word, m.read a = n.read a) → m = n

/-- 20_memory.md section 2: a file of an even number of bytes is read, in the decided byte order (big-endian, decision
D11) word `k` is `256 * byte[2k] + byte[2k+1]`, and in the other value of `IMAGE_BYTE_ORDER` the bytes change
places. A file with half a word left over is rejected, the model's choice (log entry 12). -/
def Obligations.ImageFileIsBigEndian : Prop :=
  (∀ bytes : List Byte, bytes.length % 2 = 0 → ∃ words, wordsOfImageFile bytes = some words) ∧
  (∀ (bytes : List Byte) (words : List Word), wordsOfImageFile bytes = some words →
    bytes.length = 2 * words.length ∧
    ∀ k < words.length, (words.getD k 0).toNat
      = 256 * (bytes.getD (2 * k) 0).toNat + (bytes.getD (2 * k + 1) 0).toNat) ∧
  (∀ bytes : List Byte, bytes.length % 2 = 0 → ∃ words, wordsInOrder .littleEndian bytes = some words) ∧
  ∀ (bytes : List Byte) (words : List Word), wordsInOrder .littleEndian bytes = some words →
    bytes.length = 2 * words.length ∧
    ∀ k < words.length, (words.getD k 0).toNat
      = (bytes.getD (2 * k) 0).toNat + 256 * (bytes.getD (2 * k + 1) 0).toNat

/-! ## Decoding and encoding -/

/-- R51 to R54: the fields of an instruction word. Operand b exists exactly when the base opcode is not 0, and
is never an inline literal. -/
def Obligations.InstructionWordFields : Prop :=
  ∀ w : Word,
    (opcode w).toNat = w.toNat % 32 ∧
    (opb w).toNat = w.toNat / 32 % 32 ∧
    (spc w).toNat = w.toNat / 32 % 32 ∧
    (opa w).toNat = w.toNat / 1024 ∧
    (decodeWord w).operandA = Operand.ofCode (opa w) ∧
    (decodeWord w).operandB = (if opcode w = 0 then none else some (Operand.ofCodeB (opb w))) ∧
    ∀ k, Operand.ofCodeB (opb w) ≠ .inline k

/-- R56: which operand codes consume an extra word; exactly those whose resolution adds 1 to pc. -/
def Obligations.NeedsWordIsTheResolversClassification : Prop :=
  ∀ c : BitVec 6,
    (needsWord c = true ↔ (0x10 ≤ c.toNat ∧ c.toNat ≤ 0x17) ∨ c = 0x1a ∨ c = 0x1e ∨ c = 0x1f) ∧
    ∀ (role : Role) (s : State),
      (resolve role (Operand.ofCode c) s).2.pc = if needsWord c then s.pc + 1 else s.pc

/-- R57: the length of an instruction from its instruction word alone, 1 to 3 words, at most 2 in the special
form. -/
def Obligations.LengthOfInstructionWord : Prop :=
  ∀ w : Word,
    len w = 1 + (if needsWord (opa w) then 1 else 0)
      + (if opcode w ≠ 0 ∧ needsWord ((opb w).setWidth 6) then 1 else 0) ∧
    1 ≤ len w ∧ len w ≤ 3 ∧ (opcode w = 0 → len w ≤ 2)

/-- 30_encoding.md section 2: operand a's extra word is the word after the instruction word, operand b's comes
after it. `SET [n], m` (both consume a word), and `SET [n], r` (operand a consumes none). -/
def Obligations.ExtraWordsAreOperandAsFirst : Prop :=
  (∀ s : State, exec (.set .memNext .next) s = .next
    { s with pc := s.pc + 2, memory := s.memory.write (s.readMem (s.pc + 1)) (s.readMem s.pc) }) ∧
  ∀ (r : Reg) (s : State), exec (.set .memNext (.reg r)) s = .next
    { s with pc := s.pc + 1, memory := s.memory.write (s.readMem s.pc) (s.readReg r) }

/-- Decode and encode agree on every well-formed instruction, with every operand at every value, and the extra
words announced by the word are split off exactly. -/
def Obligations.DecodeOfEncodeIsTheInstruction : Prop :=
  ∀ (i : Instr) (extra rest : List Word), i.wellFormed = true → extra.length + 1 = len (encode i) →
    decode (encode i :: (extra ++ rest)) = .ok (i, extra, rest)

/-- 30_encoding.md section 4: every one of the 65536 words is one instruction, which is well formed, and no bit
of the word is dropped. -/
def Obligations.EncodeOfDecodeIsTheWord : Prop :=
  ∀ w : Word, (decodeWord w).wellFormed = true ∧ encode (decodeWord w) = w

/-- 30_encoding.md section 3: the opcode map, all 11 + 20 base opcodes and 1 + 31 special opcodes, in the decided
numbering (D2 and D3, log entry 2), which has the limits of 00_scope.md section 3: the numbers are pairwise
distinct, none of the 11 is the special form's, and `SPC_JSR` is not 0. And for EVERY numbering with those limits:
an implemented number selects its instruction, every other one the unknown arm with its own code. -/
def Obligations.OpcodeMapDecodes : Prop :=
  ((Config.opcSpecial :: Config.implementedBase).Nodup ∧ Config.implementedBase.length = 11 ∧
    Config.spcJsr ≠ 0) ∧
  (∀ p ∈ basicRows ++ unknownBasicRows, ∀ w : Word, opcode w = p.1 →
    decodeWord w = p.2 (Operand.ofCodeB (opb w)) (Operand.ofCode (opa w))) ∧
  (∀ p ∈ (0x01, Instr.jsr) :: unknownSpecialRows, ∀ w : Word, opcode w = 0 → spc w = p.1 →
    decodeWord w = p.2 (Operand.ofCode (opa w))) ∧
  ∀ c : Parameters, c.valid = true → ∀ w : Word,
    (∀ p ∈ c.basicRows, opcode w = p.1 →
      c.arm w = .implemented (p.2 (Operand.ofCodeB (opb w)) (Operand.ofCode (opa w)))) ∧
    (opcode w ≠ 0 → opcode w ∉ c.implementedBase →
      c.arm w = .unknownOpcode (opcode w) (Operand.ofCodeB (opb w)) (Operand.ofCode (opa w))) ∧
    (opcode w = 0 → spc w = c.spcJsr → c.arm w = .implemented (.jsr (Operand.ofCode (opa w)))) ∧
    (opcode w = 0 → spc w ≠ c.spcJsr → c.arm w = .unknownSpecial (spc w) (Operand.ofCode (opa w)))

/-- Words written out in the spec decode to the instructions they stand for (43_set_add_sub.md,
44_conditional_skip.md, 42_special_jsr.md, 45_unimplemented.md). -/
def Obligations.SpecExampleWordsDecode : Prop :=
  decodeWord 0xc401 = .set (.reg .a) (.inline 17) ∧
  decodeWord 0x7fc1 = .set .memNext .next ∧
  decodeWord 0x0022 = .add (.reg .b) (.reg .a) ∧
  decodeWord 0x8803 = .sub (.reg .a) (.inline 2) ∧
  decodeWord 0x8810 = .ifb (.reg .a) (.inline 2) ∧
  decodeWord 0x0417 = .ifu (.reg .a) (.reg .b) ∧
  decodeWord 0x7c20 = .jsr .next ∧
  decodeWord 0x6381 = .set .pc .stack ∧
  decodeWord 0x0024 = .unknownOpcode04 (.reg .b) (.reg .a) ∧
  decodeWord 0x0000 = .unknownSpecial00 (.reg .a)

/-! ## Operand resolution and access -/

/-- 40_operands.md section 2: codes 0x00 + i, 0x08 + i and 0x10 + i, in both roles. -/
def Obligations.RegisterCodesResolve : Prop :=
  ∀ (role : Role) (r : Reg) (s : State),
    resolve role (Operand.ofCode (0x00 + r.index.setWidth 6)) s = (.reg r, s) ∧
    resolve role (Operand.ofCode (0x08 + r.index.setWidth 6)) s = (.mem (s.readReg r), s) ∧
    resolve role (Operand.ofCode (0x10 + r.index.setWidth 6)) s
      = (.lit (s.readReg r + s.readMem s.pc), { s with pc := s.pc + 1 })

/-- 40_operands.md section 2: codes 0x18 (pop as operand a, push as operand b), 0x19, 0x1a, 0x1b. -/
def Obligations.StackCodesResolve : Prop :=
  ∀ (role : Role) (s : State),
    resolve .a (Operand.ofCode 0x18) s = (.mem s.sp, { s with sp := s.sp + 1 }) ∧
    resolve .b (Operand.ofCode 0x18) s = (.mem (s.sp - 1), { s with sp := s.sp - 1 }) ∧
    resolve role (Operand.ofCode 0x19) s = (.mem s.sp, s) ∧
    resolve role (Operand.ofCode 0x1a) s = (.lit (s.sp + s.readMem s.pc), { s with pc := s.pc + 1 }) ∧
    resolve role (Operand.ofCode 0x1b) s = (.sp, s)

/-- 40_operands.md section 2: codes 0x1c, 0x1d, 0x1e, 0x1f, and the inline literals 0x20 (0xffff) and 0x21 + k (k). -/
def Obligations.PcExWordAndInlineCodesResolve : Prop :=
  ∀ (role : Role) (s : State),
    resolve role (Operand.ofCode 0x1c) s = (.pc, s) ∧
    resolve role (Operand.ofCode 0x1d) s = (.ex, s) ∧
    resolve role (Operand.ofCode 0x1e) s = (.mem (s.readMem s.pc), { s with pc := s.pc + 1 }) ∧
    resolve role (Operand.ofCode 0x1f) s = (.lit (s.readMem s.pc), { s with pc := s.pc + 1 }) ∧
    resolve role (Operand.ofCode 0x20) s = (.lit 0xffff, s) ∧
    ∀ k < 31, resolve role (Operand.ofCode (BitVec.ofNat 6 (0x21 + k))) s = (.lit (BitVec.ofNat 16 k), s)

/-- 40_operands.md section 1: resolving may change pc and sp and nothing else; the role matters for exactly one code, 0x18. -/
def Obligations.ResolvingChangesOnlyPcAndSp : Prop :=
  ∀ (c : BitVec 6) (s : State),
    (∀ role : Role, ∃ pc' sp', (resolve role (Operand.ofCode c) s).2 = { s with pc := pc', sp := sp' }) ∧
    (resolve .a (Operand.ofCode c) s = resolve .b (Operand.ofCode c) s ↔ c ≠ 0x18)

/-- 40_operands.md section 2, the summary by kind of result (the spec's own inference R84): which codes give
which kind of location, which move pc, which move sp. -/
def Obligations.ResolverSummaryByCode : Prop :=
  ∀ (c : BitVec 6) (role : Role) (s : State),
    ((∃ r, (resolve role (Operand.ofCode c) s).1 = .reg r) ↔ c.toNat ≤ 0x07) ∧
    ((∃ a, (resolve role (Operand.ofCode c) s).1 = .mem a) ↔
      (0x08 ≤ c.toNat ∧ c.toNat ≤ 0x0f) ∨ c = 0x18 ∨ c = 0x19 ∨ c = 0x1e) ∧
    ((∃ v, (resolve role (Operand.ofCode c) s).1 = .lit v) ↔
      (0x10 ≤ c.toNat ∧ c.toNat ≤ 0x17) ∨ c = 0x1a ∨ c = 0x1f ∨ 0x20 ≤ c.toNat) ∧
    ((resolve role (Operand.ofCode c) s).1 = .sp ↔ c = 0x1b) ∧
    ((resolve role (Operand.ofCode c) s).1 = .pc ↔ c = 0x1c) ∧
    ((resolve role (Operand.ofCode c) s).1 = .ex ↔ c = 0x1d) ∧
    (resolve role (Operand.ofCode c) s).2.pc =
      (if (0x10 ≤ c.toNat ∧ c.toNat ≤ 0x17) ∨ c = 0x1a ∨ c = 0x1e ∨ c = 0x1f then s.pc + 1 else s.pc) ∧
    (resolve role (Operand.ofCode c) s).2.sp =
      (if c = 0x18 then (match role with | .a => s.sp + 1 | .b => s.sp - 1) else s.sp)

/-- 40_operands.md section 3 (the spec's own inference R86): operand a's move of sp is seen by operand b, and
`Mem` and `Lit` locations are fixed at resolution (the table of the pairs that touch sp); a register, sp or pc
location is read at dispatch, after both resolutions: `SET PUSH, SP` stores the decremented sp, `SET [n], PC`
stores the pc after its extra word. -/
def Obligations.FixedAtResolutionReadAtDispatch : Prop :=
  ∀ s : State,
    resolveBoth .stack .stack s = ⟨.mem s.sp, .mem s.sp, s⟩ ∧
    resolveBoth .memSp .stack s = ⟨.mem (s.sp + 1), .mem s.sp, { s with sp := s.sp + 1 }⟩ ∧
    resolveBoth .stack .memSp s = ⟨.mem (s.sp - 1), .mem s.sp, { s with sp := s.sp - 1 }⟩ ∧
    resolveBoth .memSp .memSp s = ⟨.mem s.sp, .mem s.sp, s⟩ ∧
    resolveBoth .stack .spPlusNext s = ⟨.mem (s.sp - 1), .lit (s.sp + s.readMem s.pc),
      { s with pc := s.pc + 1, sp := s.sp - 1 }⟩ ∧
    (∀ r, resolveBoth (.reg r) .stack s = ⟨.reg r, .mem s.sp, { s with sp := s.sp + 1 }⟩) ∧
    (∀ r, resolveBoth .stack (.reg r) s = ⟨.mem (s.sp - 1), .reg r, { s with sp := s.sp - 1 }⟩) ∧
    exec (.set .stack .sp) s = .next
      { s with sp := s.sp - 1, memory := s.memory.write (s.sp - 1) (s.sp - 1) } ∧
    exec (.set .memNext .pc) s = .next
      { s with pc := s.pc + 1, memory := s.memory.write (s.readMem s.pc) (s.pc + 1) }

/-- R90, R91: `Read(loc)` for each kind of location; a write changes exactly the one cell named, which then
reads as the value written, and nothing else; a write through a literal stores nothing and halts. -/
def Obligations.AccessorLayerReadsAndWritesOneCell : Prop :=
  (∀ s : State, (∀ r, readLoc s (.reg r) = s.readReg r) ∧ readLoc s .pc = s.pc ∧ readLoc s .sp = s.sp ∧
    readLoc s .ex = s.ex ∧ (∀ a, readLoc s (.mem a) = s.memory.read a) ∧ ∀ v, readLoc s (.lit v) = v) ∧
  ∀ (s : State) (v : Word),
    (∀ r, ∃ g, writeLoc s (.reg r) v = { s with regs := g } ∧
      ∀ q, g.get q = if q = r then v else s.regs.get q) ∧
    writeLoc s .pc v = { s with pc := v } ∧
    writeLoc s .sp v = { s with sp := v } ∧
    writeLoc s .ex v = { s with ex := v } ∧
    (∀ a, ∃ m, writeLoc s (.mem a) v = { s with memory := m } ∧
      ∀ b, m.read b = if b = a then v else s.memory.read b) ∧
    ∀ u, writeLoc s (.lit u) v =
      { s with run := .halted, haltCause := .literalWrite, haltCode := 0 }

/-- 40_operands.md section 4 (decision D8, log entry 4): SET, ADD and SUB through operand-b code 0x10..0x17, 0x1a or 0x1f
halt with `LiteralWrite`, code 0; what the resolutions did stays done and nothing is stored. -/
def Obligations.LiteralDestinationHalts : Prop :=
  ∀ i ∈ writeInstrs, ∀ c ∈ literalCodesB, ∀ (a : Operand) (s : State),
    exec (i (Operand.ofCodeB c) a) s = .next
      { s with pc := s.pc + a.pcMove + 1, sp := s.sp + a.spMove .a,
               run := .halted, haltCause := .literalWrite, haltCode := 0 }

/-- 40_operands.md section 4: every other operand-b code may be the destination of SET, ADD and SUB: no halt
(the spec's own inference R93). -/
def Obligations.OtherDestinationsDoNotHalt : Prop :=
  ∀ i ∈ writeInstrs, ∀ c : BitVec 5, c ∉ literalCodesB → ∀ (a : Operand) (s : State),
    ∃ t, exec (i (Operand.ofCodeB c) a) s = .next t ∧
      t.run = s.run ∧ t.haltCause = s.haltCause ∧ t.haltCode = s.haltCode

/-! ## The step -/

/-- 41_step.md section 1: a step exists exactly when the machine is running. That `step` answers a fault in
`Halted`, where the spec says that no step exists, is the model's choice (log entry 3). -/
def Obligations.StepExistsExactlyWhenRunning : Prop :=
  ∀ s : State, (s.run = .running → ∃ t, step s = .next t) ∧
    (s.run = .halted → step s = .fault .noStepWhenHalted)

/-- R101, R102: a step of a running machine fetches the word at pc, adds 1 to pc, and runs the instruction the
word alone decodes to. -/
def Obligations.StepRunsTheFetchedInstruction : Prop :=
  ∀ s : State, s.run = .running →
    step s = exec (decodeWord (s.memory.read s.pc)) { s with pc := s.pc + 1 }

/-- 41_step.md section 3 (the spec's own inference R108): at dispatch pc is the address of the next instruction
in sequence, `p + Len(w)`. -/
def Obligations.PcAtDispatchIsNextInstruction : Prop :=
  ∀ (w : Word) (s : State),
    (opcode w ≠ 0 → (resolveBoth (Operand.ofCodeB (opb w)) (Operand.ofCode (opa w))
      { s with pc := s.pc + 1 }).state.pc = s.pc + BitVec.ofNat 16 (len w)) ∧
    (opcode w = 0 → (resolve .a (Operand.ofCode (opa w))
      { s with pc := s.pc + 1 }).2.pc = s.pc + BitVec.ofNat 16 (len w))

/-- 41_step.md section 3: the machine's step IS the complete step of the spec's pseudocode, transcribed by
number (`Sys2Proof.Reference.step`), for every word, operand and state of a running machine: with the decided
numbers (log entry 2), and for every value of the parameters (00_scope.md section 3). The pseudocode takes in the
spec's decisions D1, D5 and D7 to D10 (log entries 4 and 17 to 20). -/
def Obligations.StepRefinesTheSpecPseudocode : Prop :=
  (∀ s : State, s.run = .running → step s = .next (Sys2Proof.Reference.step Config.decided s)) ∧
  ∀ (p : Parameters) (s : State), s.run = .running → stepWith p s = .next (Sys2Proof.Reference.step p s)

/-- 00_scope.md section 3: the decided parameters meet the limits on opcode numbers, and the machine of this model is
the configured machine at the decided parameters (D2, D3, D6, D11; log entries 1, 2, 12). -/
def Obligations.DecidedParametersGiveThisMachine : Prop :=
  Config.decided.valid = true ∧
  (∀ s : State, stepWith Config.decided s = step s) ∧
  (∀ image : List Word, State.launchWith Config.decided image = State.launch image) ∧
  ∀ bytes : List Byte, wordsInOrder Config.decided.imageByteOrder bytes = wordsOfImageFile bytes

/-- 10_state.md section 5: the only transition is `Running -> Halted`, taken by exactly the three conditions; nothing inside the
block leaves `Halted`, only reset does. Reset at any time and the rejection of a long image are the spec's decisions
D16 and D12 (log entry 14), the opcode numbers are D2 and D3 (log entry 2). -/
def Obligations.HaltsExactlyOnTheThreeConditions : Prop :=
  (∀ s t : State, s.run = .running → step s = .next t →
    (t.run = .halted ↔
      (opcode (s.readMem s.pc) ≠ 0 ∧ opcode (s.readMem s.pc) ∉ Config.implementedBase) ∨
      (opcode (s.readMem s.pc) = 0 ∧ spc (s.readMem s.pc) ≠ Config.spcJsr) ∨
      (∃ b, (decodeWord (s.readMem s.pc)).writesThrough b ∧ b.isLiteral = true))) ∧
  (∀ s t : State, s.run = .halted → step s ≠ .next t) ∧
  ∀ (s : State) (image : List Word), image.length ≤ 65536 → ∃ t, s.restart image = some t ∧ t.run = .running

/-- 10_state.md section 5 and 60_exceptions.md section 1 (decision D7, log entry 4): the halt record after every step:
kept when the word raises no condition, else the cause and the code of the word. With the decided numbers (log
entry 2), and for every value of the parameters. -/
def Obligations.HaltRecordSaysWhy : Prop :=
  (∀ s t : State, step s = .next t →
    (t.run, t.haltCause, t.haltCode) =
      match haltOfWord (s.readMem s.pc) with
      | none => (.running, s.haltCause, s.haltCode)
      | some (cause, code) => (.halted, cause, code)) ∧
  ∀ (p : Parameters) (s t : State), stepWith p s = .next t →
    (t.run, t.haltCause, t.haltCode) =
      match haltOfWordWith p (s.readMem s.pc) with
      | none => (.running, s.haltCause, s.haltCode)
      | some (cause, code) => (.halted, cause, code)

/-- 60_exceptions.md section 2: a halting step undoes nothing and writes no register and no memory word; pc is the address of the
word after the halting instruction, sp as the resolutions left it. -/
def Obligations.HaltUndoesNothing : Prop :=
  ∀ s t : State, step s = .next t → t.run = .halted →
    t.regs = s.regs ∧ t.ex = s.ex ∧ t.memory = s.memory ∧
    t.pc = s.pc + BitVec.ofNat 16 (len (s.readMem s.pc)) ∧
    t.sp = s.sp + (decodeWord (s.readMem s.pc)).operandA.spMove .a
      + (match (decodeWord (s.readMem s.pc)).operandB with
         | some b => b.spMove .b
         | none => 0)

/-- 10_state.md section 5 (decision D7, log entry 4): no instruction can read the halt record. Two running machines that
differ only in it step to machines that differ only in it. -/
def Obligations.HaltRecordCannotBeRead : Prop :=
  ∀ (s t : State) (cause : HaltCause) (code : BitVec 5), step s = .next t →
    ∃ cause' code', step { s with haltCause := cause, haltCode := code }
      = .next { t with haltCause := cause', haltCode := code' }

/-- 10_state.md section 2: the events that change pc. Every step but a jump leaves pc at the next instruction in
sequence, and a skip-conditional there or exactly one instruction further (the spec's own inference). -/
def Obligations.PcMovesToNextInstructionUnlessJump : Prop :=
  ∀ s t : State, step s = .next t →
    (∀ a, decodeWord (s.readMem s.pc) ≠ .jsr a) →
    ¬ (decodeWord (s.readMem s.pc)).writesThrough .pc →
    t.pc = s.pc + BitVec.ofNat 16 (len (s.readMem s.pc)) ∨
    ((∃ p ∈ conditionals, ∃ b a, decodeWord (s.readMem s.pc) = p.1 b a) ∧
      t.pc = s.pc + BitVec.ofNat 16 (len (s.readMem s.pc))
        + BitVec.ofNat 16 (len (s.readMem (s.pc + BitVec.ofNat 16 (len (s.readMem s.pc))))))

/-- 20_memory.md section 5: a store is seen by the very next fetch. After SET, ADD or SUB through any memory operand,
and after JSR's push, the stored word is what the address holds, and when the next step fetches from that address
it runs the stored word. -/
def Obligations.StoreIsSeenByNextFetch : Prop :=
  ∀ s : State, s.run = .running →
    (∀ p ∈ writeOps, ∀ (b a : Operand) (r : Resolved) (addr : Word),
      decodeWord (s.readMem s.pc) = p.1 b a → resolveBoth b a { s with pc := s.pc + 1 } = r → r.locB = .mem addr →
      ∃ t, step s = .next t ∧ t.readMem addr = p.2 r.valueB r.valueA ∧
        (t.pc = addr → step t = exec (decodeWord (p.2 r.valueB r.valueA)) { t with pc := addr + 1 })) ∧
    ∀ (a : Operand) (addr : Word), decodeWord (s.readMem s.pc) = .jsr a → addr = s.sp + a.spMove .a - 1 →
      ∃ t, step s = .next t ∧ t.readMem addr = s.pc + 1 + a.pcMove ∧
        (t.pc = addr → step t = exec (decodeWord (s.pc + 1 + a.pcMove)) { t with pc := addr + 1 })

/-- 70_reset_and_hazards.md section 4: a program that runs into a zero word halts with
`UnknownSpecialOpcode`, code 0, and nothing else of the state changes but pc. -/
def Obligations.ZeroWordEndsTheRun : Prop :=
  ∀ s : State, s.run = .running → s.readMem s.pc = 0 →
    step s = .next { s with pc := s.pc + 1, run := .halted, haltCause := .unknownSpecialOpcode,
                            haltCode := 0 }

/-! ## Frames over all instructions -/

/-- 10_state.md section 1: a general register is written only by SET, ADD or SUB through its own code. -/
def Obligations.RegisterWrittenOnlyThroughItsCode : Prop :=
  ∀ (i : Instr) (s t : State) (r : Reg), exec i s = .next t → ¬ i.writesThrough (.reg r) →
    t.readReg r = s.readReg r

/-- R133: ex is written only by SET, ADD or SUB with operand b `EX`, and then gets the 16-bit result like
any other cell. -/
def Obligations.ExWrittenOnlyAsDestination : Prop :=
  (∀ (i : Instr) (s t : State), exec i s = .next t → ¬ i.writesThrough .ex → t.ex = s.ex) ∧
  ∀ (a : Operand) (s : State),
    (∃ t, exec (.set .ex a) s = .next t ∧ t.ex = (resolveBoth .ex a s).valueA) ∧
    (∃ t, exec (.add .ex a) s = .next t ∧ t.ex = s.ex + (resolveBoth .ex a s).valueA) ∧
    (∃ t, exec (.sub .ex a) s = .next t ∧ t.ex = s.ex - (resolveBoth .ex a s).valueA)

/-- 10_state.md section 3: sp is moved only by operand code 0x18 (+1 as operand a, -1 as operand b), by JSR
(-1), and by SET, ADD or SUB through `SP` (the spec's own inference). -/
def Obligations.SpMovedOnlyByStackOperandsJsrAndSp : Prop :=
  ∀ (i : Instr) (s t : State), exec i s = .next t → ¬ i.writesThrough .sp →
    t.sp = s.sp + i.operandA.spMove .a
      + (match i.operandB with
         | some b => b.spMove .b
         | none => 0)
      + (match i with
         | .jsr _ => 0xffff
         | _ => 0)

/-- 20_memory.md sections 4 and 5: memory is written only by SET, ADD and SUB through a memory operand b, at
that operand's address, and by JSR at its push address; every other word reads as before, and every other
instruction leaves all of memory as it was (the spec's own inference). -/
def Obligations.MemoryWrittenOnlyAtTheStoreAddress : Prop :=
  ∀ (i : Instr) (s t : State), exec i s = .next t →
    (∀ a, i = .jsr a → ∀ x : Word, x ≠ s.sp + a.spMove .a - 1 → t.readMem x = s.readMem x) ∧
    (∀ b a, i = .set b a ∨ i = .add b a ∨ i = .sub b a →
      (∀ addr, (resolveBoth b a s).locB = .mem addr → ∀ x : Word, x ≠ addr → t.readMem x = s.readMem x) ∧
      ((∀ addr, (resolveBoth b a s).locB ≠ .mem addr) → t.memory = s.memory)) ∧
    ((∀ a, i ≠ .jsr a) → (∀ b, ¬ i.writesThrough b) → t.memory = s.memory)

/-! ## SET, ADD, SUB -/

/-- 43_set_add_sub.md, SET: `v = Read(locA); Write(locB, v)`. -/
def Obligations.SetEffect : Prop :=
  ∀ (b a : Operand) (s : State),
    exec (.set b a) s = .next (writeLoc (resolveBoth b a s).state (resolveBoth b a s).locB
      (readLoc (resolveBoth b a s).state (resolveBoth b a s).locA))

/-- 43_set_add_sub.md, SET: for every register and value, `SET r, v` followed by a read of r yields v; nothing
else changes but pc and sp by the operand. -/
def Obligations.SetRegisterThenRead : Prop :=
  ∀ (r : Reg) (a : Operand) (s : State), ∃ g,
    exec (.set (.reg r) a) s = .next
      { s with pc := s.pc + a.pcMove, sp := s.sp + a.spMove .a, regs := g } ∧
    g.get r = (resolveBoth (.reg r) a s).valueA ∧ (∀ q, q ≠ r → g.get q = s.regs.get q) ∧
    (a = .next → g.get r = s.readMem s.pc)

/-- 43_set_add_sub.md, SET, corner cases: `SET r, r` and (in canonical memory, log entry 5) `SET PUSH, POP`
change nothing; `SET SP, POP` loads sp from the old top of stack. -/
def Obligations.SetCornerCases : Prop :=
  ∀ s : State,
    (∀ r, exec (.set (.reg r) (.reg r)) s = .next s) ∧
    (s.memory.wf = true → exec (.set .stack .stack) s = .next s) ∧
    exec (.set .sp .stack) s = .next { s with sp := s.readMem s.sp }

/-- 43_set_add_sub.md, ADD: the sum of operand b's and operand a's value is written through operand b; in a
register it is `(b + a) mod 65536`. -/
def Obligations.AddEffect : Prop :=
  (∀ (b a : Operand) (s : State),
    exec (.add b a) s = .next (writeLoc (resolveBoth b a s).state (resolveBoth b a s).locB
      (readLoc (resolveBoth b a s).state (resolveBoth b a s).locB
        + readLoc (resolveBoth b a s).state (resolveBoth b a s).locA))) ∧
  ∀ (r : Reg) (a : Operand) (s : State), ∃ t, exec (.add (.reg r) a) s = .next t ∧
    (t.readReg r).toNat
      = ((s.readReg r).toNat + (resolveBoth (.reg r) a s).valueA.toNat) % 65536

/-- 43_set_add_sub.md, SUB: operand b minus operand a is written through operand b; in a register it is
`(b - a) mod 65536`. -/
def Obligations.SubEffect : Prop :=
  (∀ (b a : Operand) (s : State),
    exec (.sub b a) s = .next (writeLoc (resolveBoth b a s).state (resolveBoth b a s).locB
      (readLoc (resolveBoth b a s).state (resolveBoth b a s).locB
        - readLoc (resolveBoth b a s).state (resolveBoth b a s).locA))) ∧
  ∀ (r : Reg) (a : Operand) (s : State), ∃ t, exec (.sub (.reg r) a) s = .next t ∧
    ((t.readReg r).toNat : Int)
      = (((s.readReg r).toNat : Int) - ((resolveBoth (.reg r) a s).valueA.toNat : Int)) % 65536

/-- 43_set_add_sub.md: the frame of SET, ADD and SUB, all forms. Only the destination changes, and pc and sp as
the two operands move them; a literal destination changes only the run state and the halt record. -/
def Obligations.WriteInstructionsFrame : Prop :=
  ∀ i ∈ writeInstrs, ∀ (b a : Operand) (s t : State), exec (i b a) s = .next t →
    (∀ r, b ≠ .reg r → t.readReg r = s.readReg r) ∧
    (b ≠ .ex → t.ex = s.ex) ∧
    (b ≠ .pc → t.pc = s.pc + a.pcMove + b.pcMove) ∧
    (b ≠ .sp → t.sp = s.sp + a.spMove .a + b.spMove .b) ∧
    (∀ addr, (resolveBoth b a s).locB = .mem addr → ∀ x : Word, x ≠ addr → t.readMem x = s.readMem x) ∧
    ((∀ addr, (resolveBoth b a s).locB ≠ .mem addr) → ∀ x : Word, t.readMem x = s.readMem x) ∧
    (b.isLiteral = false → t.run = s.run ∧ t.haltCause = s.haltCause ∧ t.haltCode = s.haltCode)

/-- 43_set_add_sub.md, writing pc (the spec's own inference R135): SET, ADD and SUB through `PC` are jumps from
the address of the next instruction; `SET PC, PC` is a no-op, `SUB PC, 1` jumps to itself (to the address of
its own word), `SET PC, POP` returns. -/
def Obligations.WritingPcJumps : Prop :=
  ∀ s : State,
    (∀ a : Operand, ∃ t, exec (.set .pc a) s = .next t ∧ t.pc = (resolveBoth .pc a s).valueA) ∧
    (∀ a : Operand, ∃ t, exec (.add .pc a) s = .next t ∧
      t.pc = s.pc + a.pcMove + (resolveBoth .pc a s).valueA) ∧
    (∀ a : Operand, ∃ t, exec (.sub .pc a) s = .next t ∧
      t.pc = s.pc + a.pcMove - (resolveBoth .pc a s).valueA) ∧
    exec (.set .pc .pc) s = .next s ∧
    exec (.sub .pc (.inline 2)) s = .next { s with pc := s.pc - 1 } ∧
    exec (.set .pc .stack) s = .next { s with pc := s.readMem s.sp, sp := s.sp + 1 }

/-- 43_set_add_sub.md, laws (the spec's own inference R136): both reads come before the one write, and operand b
is resolved once. `ADD [r], [r]`, `ADD PUSH, r`, `ADD [SP], POP`. -/
def Obligations.ReadsComeBeforeTheWrite : Prop :=
  ∀ (r : Reg) (s : State),
    exec (.add (.memReg r) (.memReg r)) s = .next
      { s with
        memory := s.memory.write (s.readReg r)
          (s.readMem (s.readReg r) + s.readMem (s.readReg r)) } ∧
    exec (.add .stack (.reg r)) s = .next
      { s with sp := s.sp - 1,
               memory := s.memory.write (s.sp - 1) (s.readMem (s.sp - 1) + s.readReg r) } ∧
    exec (.add .memSp .stack) s = .next
      { s with sp := s.sp + 1,
               memory := s.memory.write (s.sp + 1) (s.readMem (s.sp + 1) + s.readMem s.sp) }

/-! ## JSR -/

/-- 42_special_jsr.md: JSR with any operand a. The return address is the pc at dispatch; the push comes first,
the target is read after it (decision D9, log entry 19); nothing else changes. -/
def Obligations.JsrPushesAndJumps : Prop :=
  ∀ (a : Operand) (s : State),
    exec (.jsr a) s = .next
      { s with
        sp := s.sp + a.spMove .a - 1
        memory := s.memory.write (s.sp + a.spMove .a - 1) (s.pc + a.pcMove)
        pc := readLoc
          { s with
            pc := s.pc + a.pcMove
            sp := s.sp + a.spMove .a - 1
            memory := s.memory.write (s.sp + a.spMove .a - 1) (s.pc + a.pcMove) }
          (resolve .a a s).1 }

/-- 42_special_jsr.md: the table of JSR's corner cases (the spec's own inference R121), one row per kind of
operand a. -/
def Obligations.JsrCornerCases : Prop :=
  ∀ (s : State),
    (∀ r, exec (.jsr (.reg r)) s = .next
      { s with sp := s.sp - 1, memory := s.memory.write (s.sp - 1) s.pc, pc := s.readReg r }) ∧
    (∀ r, exec (.jsr (.memReg r)) s = .next
      { s with sp := s.sp - 1, memory := s.memory.write (s.sp - 1) s.pc,
               pc := if s.readReg r = s.sp - 1 then s.pc else s.readMem (s.readReg r) }) ∧
    (∀ r, exec (.jsr (.regPlusNext r)) s = .next
      { s with sp := s.sp - 1, memory := s.memory.write (s.sp - 1) (s.pc + 1),
               pc := s.readReg r + s.readMem s.pc }) ∧
    exec (.jsr .stack) s = .next
      { s with memory := s.memory.write s.sp s.pc } ∧
    exec (.jsr .memSp) s = .next
      { s with sp := s.sp - 1, memory := s.memory.write (s.sp - 1) s.pc, pc := s.readMem s.sp } ∧
    exec (.jsr .spPlusNext) s = .next
      { s with sp := s.sp - 1, memory := s.memory.write (s.sp - 1) (s.pc + 1),
               pc := s.sp + s.readMem s.pc } ∧
    exec (.jsr .sp) s = .next
      { s with sp := s.sp - 1, memory := s.memory.write (s.sp - 1) s.pc, pc := s.sp - 1 } ∧
    exec (.jsr .pc) s = .next
      { s with sp := s.sp - 1, memory := s.memory.write (s.sp - 1) s.pc } ∧
    exec (.jsr .ex) s = .next
      { s with sp := s.sp - 1, memory := s.memory.write (s.sp - 1) s.pc, pc := s.ex } ∧
    exec (.jsr .memNext) s = .next
      { s with sp := s.sp - 1, memory := s.memory.write (s.sp - 1) (s.pc + 1),
               pc := if s.readMem s.pc = s.sp - 1 then s.pc + 1 else s.readMem (s.readMem s.pc) } ∧
    exec (.jsr .next) s = .next
      { s with sp := s.sp - 1, memory := s.memory.write (s.sp - 1) (s.pc + 1), pc := s.readMem s.pc } ∧
    ∀ k, exec (.jsr (.inline k)) s = .next
      { s with sp := s.sp - 1, memory := s.memory.write (s.sp - 1) s.pc, pc := inlineValue k }

/-! ## The skip-conditionals -/

/-- R140: the engine, for all eight. A skip-conditional writes nothing but pc (and what resolving its own
operands does), cannot halt the machine, and steps over one instruction when its predicate is false. -/
def Obligations.SkipConditionalEffect : Prop :=
  ∀ p ∈ conditionals, ∀ (b a : Operand) (s : State),
    exec (p.1 b a) s = .next
      { s with
        sp := s.sp + a.spMove .a + b.spMove .b
        pc :=
          if p.2 (resolveBoth b a s).valueB (resolveBoth b a s).valueA then s.pc + a.pcMove + b.pcMove
          else s.pc + a.pcMove + b.pcMove
            + BitVec.ofNat 16 (len (s.readMem (s.pc + a.pcMove + b.pcMove))) }

/-- R149, R150: exactly one instruction is skipped and no part of it is executed, whatever it is (a
skip-conditional, an unknown opcode, a push, a literal write): after a false predicate the next step runs the
instruction after it, unconditionally. -/
def Obligations.SkipsExactlyOneInstruction : Prop :=
  ∀ p ∈ conditionals, ∀ (b a : Operand) (s : State), s.run = .running →
    p.2 (resolveBoth b a s).valueB (resolveBoth b a s).valueA = false →
    ∃ t, exec (p.1 b a) s = .next t ∧
      t.pc = s.pc + a.pcMove + b.pcMove
        + BitVec.ofNat 16 (len (s.readMem (s.pc + a.pcMove + b.pcMove))) ∧
      t.regs = s.regs ∧ t.ex = s.ex ∧ t.memory = s.memory ∧
      t.sp = s.sp + a.spMove .a + b.spMove .b ∧
      t.run = .running ∧ t.haltCause = s.haltCause ∧ t.haltCode = s.haltCode ∧
      step t = exec (decodeWord (s.readMem t.pc)) { t with pc := t.pc + 1 }

/-- 44_conditional_skip.md section 2, IFB and IFC: true when the words have a 1 bit in common, and its exact
complement. -/
def Obligations.BitTestPredicates : Prop :=
  ∀ vb va : Word,
    (predIfb vb va = true ↔ ∃ k < 16, vb.getLsbD k = true ∧ va.getLsbD k = true) ∧
    predIfc vb va = !predIfb vb va

/-- 44_conditional_skip.md section 2, IFE, IFN, IFG, IFL: equality, its complement, and the unsigned orders
(operand b on the left: decision D5, log entry 18). Exactly one of less, equal, greater holds. -/
def Obligations.EqualityAndUnsignedPredicates : Prop :=
  ∀ vb va : Word,
    (predIfe vb va = true ↔ vb.toNat = va.toNat) ∧ predIfn vb va = !predIfe vb va ∧
    predIfg vb va = va.ult vb ∧ predIfl vb va = vb.ult va ∧
    (predIfe vb va = false → predIfg vb va = !predIfl vb va) ∧
    (predIfe vb va = true → predIfg vb va = false ∧ predIfl vb va = false)

/-- 44_conditional_skip.md section 2, IFA and IFU: the orders of the two's-complement readings (operand b on the
left: decision D5, log entry 18), with their corner cases. -/
def Obligations.SignedPredicates : Prop :=
  ∀ vb va : Word,
    signed16 vb = vb.toInt ∧
    predIfa vb va = va.slt vb ∧ predIfu vb va = vb.slt va ∧
    predIfa vb 0x7fff = false ∧ predIfu vb 0x8000 = false ∧
    predIfa vb vb = false ∧ predIfu vb vb = false

/-- 44_conditional_skip.md section 3: the outcome table, E (executed) as true and S (skipped) as false, in the
order IFB IFC IFE IFN IFG IFA IFL IFU. -/
def Obligations.OutcomeTable : Prop :=
  ([(0x0000, 0x0000), (0x0001, 0x0001), (0x0001, 0x0002), (0x0002, 0x0001), (0x0003, 0x0001),
    (0x0001, 0xffff), (0xffff, 0x0001), (0x8000, 0x7fff), (0x7fff, 0x8000), (0xffff, 0xffff),
    (0x8000, 0x8000), (0x0000, 0xffff)] : List (Word × Word)).map
      (fun v => conditionals.map fun p => p.2 v.1 v.2)
  = [[false, true, true, false, false, false, false, false],
     [true, false, true, false, false, false, false, false],
     [false, true, false, true, false, false, true, true],
     [false, true, false, true, true, true, false, false],
     [true, false, false, true, true, true, false, false],
     [true, false, false, true, false, true, true, false],
     [true, false, false, true, true, false, false, true],
     [false, true, false, true, true, false, false, true],
     [false, true, false, true, false, true, true, false],
     [true, false, true, false, false, false, false, false],
     [true, false, true, false, false, false, false, false],
     [false, true, false, true, false, true, true, false]]

/-! ## Every other opcode -/

/-- 45_unimplemented.md, unknown base opcode: each of the 20 halts with `UnknownOpcode` and its own code, after
both operands are resolved with their moves of pc and sp; nothing else changes (decision D10, log entry 20). -/
def Obligations.UnknownOpcodesHalt : Prop :=
  ∀ p ∈ unknownBasicRows, ∀ (b a : Operand) (s : State),
    exec (p.2 b a) s = .next
      { s with pc := s.pc + a.pcMove + b.pcMove, sp := s.sp + a.spMove .a + b.spMove .b,
               run := .halted, haltCause := .unknownOpcode, haltCode := p.1 }

/-- 45_unimplemented.md, unknown special opcode: each of the 31 halts with `UnknownSpecialOpcode` and its own
code, after operand a is resolved; nothing else changes (decision D10, log entry 20). -/
def Obligations.UnknownSpecialOpcodesHalt : Prop :=
  ∀ p ∈ unknownSpecialRows, ∀ (a : Operand) (s : State),
    exec (p.2 a) s = .next
      { s with pc := s.pc + a.pcMove, sp := s.sp + a.spMove .a,
               run := .halted, haltCause := .unknownSpecialOpcode, haltCode := p.1 }
end

