-- ==== Sys2Proof/Laws/State.lean ====
section
/-! SUPPORT. One lemma per field per update of State, and the register file's read-after-write laws. -/

namespace Sys2Proof.Machine

@[simp] theorem State.readReg_eq (s : State) (r : Reg) : s.readReg r = s.regs.get r := rfl
@[simp] theorem State.readMem_eq (s : State) (a : Word) : s.readMem a = s.memory.read a := rfl
@[simp] theorem State.wordAtPc_eq (s : State) : s.wordAtPc = s.memory.read s.pc := rfl
@[simp] theorem State.fetchWord_eq (s : State) : s.fetchWord = s.memory.read s.pc := rfl

@[simp] theorem State.writeReg_regs (s : State) (r : Reg) (v : Word) : (s.writeReg r v).regs = s.regs.set r v := rfl
@[simp] theorem State.writeReg_pc (s : State) (r : Reg) (v : Word) : (s.writeReg r v).pc = s.pc := rfl
@[simp] theorem State.writeReg_sp (s : State) (r : Reg) (v : Word) : (s.writeReg r v).sp = s.sp := rfl
@[simp] theorem State.writeReg_ex (s : State) (r : Reg) (v : Word) : (s.writeReg r v).ex = s.ex := rfl
@[simp] theorem State.writeReg_memory (s : State) (r : Reg) (v : Word) : (s.writeReg r v).memory = s.memory := rfl
@[simp] theorem State.writeReg_run (s : State) (r : Reg) (v : Word) : (s.writeReg r v).run = s.run := rfl
@[simp] theorem State.writeReg_haltCause (s : State) (r : Reg) (v : Word) : (s.writeReg r v).haltCause = s.haltCause := rfl
@[simp] theorem State.writeReg_haltCode (s : State) (r : Reg) (v : Word) : (s.writeReg r v).haltCode = s.haltCode := rfl

@[simp] theorem State.setPc_regs (s : State) (v : Word) : (s.setPc v).regs = s.regs := rfl
@[simp] theorem State.setPc_pc (s : State) (v : Word) : (s.setPc v).pc = v := rfl
@[simp] theorem State.setPc_sp (s : State) (v : Word) : (s.setPc v).sp = s.sp := rfl
@[simp] theorem State.setPc_ex (s : State) (v : Word) : (s.setPc v).ex = s.ex := rfl
@[simp] theorem State.setPc_memory (s : State) (v : Word) : (s.setPc v).memory = s.memory := rfl
@[simp] theorem State.setPc_run (s : State) (v : Word) : (s.setPc v).run = s.run := rfl
@[simp] theorem State.setPc_haltCause (s : State) (v : Word) : (s.setPc v).haltCause = s.haltCause := rfl
@[simp] theorem State.setPc_haltCode (s : State) (v : Word) : (s.setPc v).haltCode = s.haltCode := rfl

@[simp] theorem State.setSp_regs (s : State) (v : Word) : (s.setSp v).regs = s.regs := rfl
@[simp] theorem State.setSp_pc (s : State) (v : Word) : (s.setSp v).pc = s.pc := rfl
@[simp] theorem State.setSp_sp (s : State) (v : Word) : (s.setSp v).sp = v := rfl
@[simp] theorem State.setSp_ex (s : State) (v : Word) : (s.setSp v).ex = s.ex := rfl
@[simp] theorem State.setSp_memory (s : State) (v : Word) : (s.setSp v).memory = s.memory := rfl
@[simp] theorem State.setSp_run (s : State) (v : Word) : (s.setSp v).run = s.run := rfl
@[simp] theorem State.setSp_haltCause (s : State) (v : Word) : (s.setSp v).haltCause = s.haltCause := rfl
@[simp] theorem State.setSp_haltCode (s : State) (v : Word) : (s.setSp v).haltCode = s.haltCode := rfl

@[simp] theorem State.setEx_regs (s : State) (v : Word) : (s.setEx v).regs = s.regs := rfl
@[simp] theorem State.setEx_pc (s : State) (v : Word) : (s.setEx v).pc = s.pc := rfl
@[simp] theorem State.setEx_sp (s : State) (v : Word) : (s.setEx v).sp = s.sp := rfl
@[simp] theorem State.setEx_ex (s : State) (v : Word) : (s.setEx v).ex = v := rfl
@[simp] theorem State.setEx_memory (s : State) (v : Word) : (s.setEx v).memory = s.memory := rfl
@[simp] theorem State.setEx_run (s : State) (v : Word) : (s.setEx v).run = s.run := rfl
@[simp] theorem State.setEx_haltCause (s : State) (v : Word) : (s.setEx v).haltCause = s.haltCause := rfl
@[simp] theorem State.setEx_haltCode (s : State) (v : Word) : (s.setEx v).haltCode = s.haltCode := rfl

@[simp] theorem State.writeMem_regs (s : State) (a v : Word) : (s.writeMem a v).regs = s.regs := rfl
@[simp] theorem State.writeMem_pc (s : State) (a v : Word) : (s.writeMem a v).pc = s.pc := rfl
@[simp] theorem State.writeMem_sp (s : State) (a v : Word) : (s.writeMem a v).sp = s.sp := rfl
@[simp] theorem State.writeMem_ex (s : State) (a v : Word) : (s.writeMem a v).ex = s.ex := rfl
@[simp] theorem State.writeMem_memory (s : State) (a v : Word) : (s.writeMem a v).memory = s.memory.write a v := rfl
@[simp] theorem State.writeMem_run (s : State) (a v : Word) : (s.writeMem a v).run = s.run := rfl
@[simp] theorem State.writeMem_haltCause (s : State) (a v : Word) : (s.writeMem a v).haltCause = s.haltCause := rfl
@[simp] theorem State.writeMem_haltCode (s : State) (a v : Word) : (s.writeMem a v).haltCode = s.haltCode := rfl

@[simp] theorem State.advancePc_regs (s : State) : (s.advancePc).regs = s.regs := rfl
@[simp] theorem State.advancePc_pc (s : State) : (s.advancePc).pc = s.pc + 1 := rfl
@[simp] theorem State.advancePc_sp (s : State) : (s.advancePc).sp = s.sp := rfl
@[simp] theorem State.advancePc_ex (s : State) : (s.advancePc).ex = s.ex := rfl
@[simp] theorem State.advancePc_memory (s : State) : (s.advancePc).memory = s.memory := rfl
@[simp] theorem State.advancePc_run (s : State) : (s.advancePc).run = s.run := rfl
@[simp] theorem State.advancePc_haltCause (s : State) : (s.advancePc).haltCause = s.haltCause := rfl
@[simp] theorem State.advancePc_haltCode (s : State) : (s.advancePc).haltCode = s.haltCode := rfl

@[simp] theorem State.raiseHalt_regs (s : State) (c : HaltCause) (k : BitVec 5) : (s.raiseHalt c k).regs = s.regs := rfl
@[simp] theorem State.raiseHalt_pc (s : State) (c : HaltCause) (k : BitVec 5) : (s.raiseHalt c k).pc = s.pc := rfl
@[simp] theorem State.raiseHalt_sp (s : State) (c : HaltCause) (k : BitVec 5) : (s.raiseHalt c k).sp = s.sp := rfl
@[simp] theorem State.raiseHalt_ex (s : State) (c : HaltCause) (k : BitVec 5) : (s.raiseHalt c k).ex = s.ex := rfl
@[simp] theorem State.raiseHalt_memory (s : State) (c : HaltCause) (k : BitVec 5) : (s.raiseHalt c k).memory = s.memory := rfl
@[simp] theorem State.raiseHalt_run (s : State) (c : HaltCause) (k : BitVec 5) : (s.raiseHalt c k).run = .halted := rfl
@[simp] theorem State.raiseHalt_haltCause (s : State) (c : HaltCause) (k : BitVec 5) : (s.raiseHalt c k).haltCause = c := rfl
@[simp] theorem State.raiseHalt_haltCode (s : State) (c : HaltCause) (k : BitVec 5) : (s.raiseHalt c k).haltCode = k := rfl

@[simp] theorem State.skipNext_regs (s : State) : (s.skipNext).regs = s.regs := rfl
@[simp] theorem State.skipNext_pc (s : State) : (s.skipNext).pc = s.pc + BitVec.ofNat 16 (len (s.memory.read s.pc)) := rfl
@[simp] theorem State.skipNext_sp (s : State) : (s.skipNext).sp = s.sp := rfl
@[simp] theorem State.skipNext_ex (s : State) : (s.skipNext).ex = s.ex := rfl
@[simp] theorem State.skipNext_memory (s : State) : (s.skipNext).memory = s.memory := rfl
@[simp] theorem State.skipNext_run (s : State) : (s.skipNext).run = s.run := rfl
@[simp] theorem State.skipNext_haltCause (s : State) : (s.skipNext).haltCause = s.haltCause := rfl
@[simp] theorem State.skipNext_haltCode (s : State) : (s.skipNext).haltCode = s.haltCode := rfl

@[simp] theorem State.push_regs (s : State) (v : Word) : (s.push v).regs = s.regs := rfl
@[simp] theorem State.push_pc (s : State) (v : Word) : (s.push v).pc = s.pc := rfl
@[simp] theorem State.push_sp (s : State) (v : Word) : (s.push v).sp = s.sp - 1 := rfl
@[simp] theorem State.push_ex (s : State) (v : Word) : (s.push v).ex = s.ex := rfl
@[simp] theorem State.push_memory (s : State) (v : Word) : (s.push v).memory = s.memory.write (s.sp - 1) v := rfl
@[simp] theorem State.push_run (s : State) (v : Word) : (s.push v).run = s.run := rfl
@[simp] theorem State.push_haltCause (s : State) (v : Word) : (s.push v).haltCause = s.haltCause := rfl
@[simp] theorem State.push_haltCode (s : State) (v : Word) : (s.push v).haltCode = s.haltCode := rfl

@[simp] theorem State.afterFetch_regs (s : State) : (s.afterFetch).regs = s.regs := rfl
@[simp] theorem State.afterFetch_pc (s : State) : (s.afterFetch).pc = s.pc + 1 := rfl
@[simp] theorem State.afterFetch_sp (s : State) : (s.afterFetch).sp = s.sp := rfl
@[simp] theorem State.afterFetch_ex (s : State) : (s.afterFetch).ex = s.ex := rfl
@[simp] theorem State.afterFetch_memory (s : State) : (s.afterFetch).memory = s.memory := rfl
@[simp] theorem State.afterFetch_run (s : State) : (s.afterFetch).run = s.run := rfl
@[simp] theorem State.afterFetch_haltCause (s : State) : (s.afterFetch).haltCause = s.haltCause := rfl
@[simp] theorem State.afterFetch_haltCode (s : State) : (s.afterFetch).haltCode = s.haltCode := rfl

/-- A register reads back what was written to it; the other registers are untouched (10_state.md R11). -/
@[simp] theorem Regs.get_set (f : Regs) (r q : Reg) (v : Word) :
    (f.set r v).get q = if q = r then v else f.get q := by
  cases r <;> cases q <;> rfl

/-- Writing a register with its own value changes nothing. -/
@[simp] theorem Regs.set_get (f : Regs) (r : Reg) : f.set r (f.get r) = f := by
  cases r <;> rfl

/-- Two register files with the same eight registers are equal. -/
theorem Regs.ext_get {f g : Regs} (h : ∀ r, f.get r = g.get r) : f = g := by
  obtain ⟨a, b, c, x, y, z, i, j⟩ := f
  obtain ⟨a', b', c', x', y', z', i', j'⟩ := g
  have ha := h .a; have hb := h .b; have hc := h .c; have hx := h .x
  have hy := h .y; have hz := h .z; have hi := h .i; have hj := h .j
  simp only [Regs.get] at ha hb hc hx hy hz hi hj
  subst ha hb hc hx hy hz hi hj
  rfl

end Sys2Proof.Machine
end

