-- ==== Sys2Proof/Laws/Memory.lean ====
section
/-! SUPPORT. The laws of memory: what a cell reads as after each list operation, and that every memory
operation keeps the canonical form. -/

namespace Sys2Proof.Machine

/-! ## Reading after listing and unlisting a cell -/

theorem lookupCell_insertCell (m : List Cell) (a b : Nat) (v : Word) :
    lookupCell (insertCell m a v) b = if b = a then v else lookupCell m b := by
  induction m with
  | nil => rfl
  | cons c rest ih =>
    obtain ⟨k, w⟩ := c
    simp only [insertCell]
    split
    · simp [lookupCell]
    · split
      · next h => subst h; by_cases hb : b = a <;> simp [lookupCell, hb]
      · next h =>
        simp only [lookupCell, ih]
        by_cases hk : b = k
        · simp [hk, show k ≠ a by omega]
        · simp [hk]

theorem lookupCell_eraseCell (m : List Cell) (a b : Nat) :
    lookupCell (eraseCell m a) b = if b = a then Config.unlistedWord else lookupCell m b := by
  induction m with
  | nil => simp [eraseCell, lookupCell]
  | cons c rest ih =>
    obtain ⟨k, w⟩ := c
    simp only [eraseCell]
    split
    · next h =>
      subst h
      rw [ih]
      by_cases hb : b = a <;> simp [lookupCell, hb]
    · next h =>
      simp only [lookupCell, ih]
      by_cases hk : b = k
      · simp [hk, show k ≠ a by omega]
      · simp [hk]

/-! ## The canonical form -/

theorem wfCellsFrom_mono {lo lo' : Nat} {m : List Cell} (h : wfCellsFrom lo m = true) (hl : lo' ≤ lo) :
    wfCellsFrom lo' m = true := by
  cases m with
  | nil => rfl
  | cons c rest =>
    obtain ⟨k, w⟩ := c
    simp only [wfCellsFrom, Bool.and_eq_true, decide_eq_true_eq] at h ⊢
    exact ⟨⟨⟨by omega, h.1.1.2⟩, h.1.2⟩, h.2⟩

/-- A canonical list lists nothing below its bound. -/
theorem lookupCell_below {lo : Nat} {m : List Cell} (h : wfCellsFrom lo m = true) {a : Nat} (ha : a < lo) :
    lookupCell m a = Config.unlistedWord := by
  induction m generalizing lo with
  | nil => rfl
  | cons c rest ih =>
    obtain ⟨k, w⟩ := c
    simp only [wfCellsFrom, Bool.and_eq_true, decide_eq_true_eq] at h
    simp only [lookupCell, show a ≠ k by omega, if_false]
    exact ih h.2 (by omega)

theorem wfCellsFrom_insertCell {lo : Nat} {m : List Cell} (h : wfCellsFrom lo m = true) {a : Nat}
    (hlo : lo ≤ a) (ha : a < 65536) {v : Word} (hv : v ≠ Config.unlistedWord) :
    wfCellsFrom lo (insertCell m a v) = true := by
  induction m generalizing lo with
  | nil =>
    simp only [insertCell, wfCellsFrom, Bool.and_eq_true, decide_eq_true_eq]
    exact ⟨⟨⟨hlo, ha⟩, hv⟩, trivial⟩
  | cons c rest ih =>
    obtain ⟨k, w⟩ := c
    simp only [wfCellsFrom, Bool.and_eq_true, decide_eq_true_eq] at h
    obtain ⟨⟨⟨h1, h2⟩, h3⟩, h4⟩ := h
    simp only [insertCell]
    split
    · simp only [wfCellsFrom, Bool.and_eq_true, decide_eq_true_eq]
      exact ⟨⟨⟨hlo, ha⟩, hv⟩, ⟨⟨⟨by omega, h2⟩, h3⟩, h4⟩⟩
    · split
      · next _ he =>
        subst he
        simp only [wfCellsFrom, Bool.and_eq_true, decide_eq_true_eq]
        exact ⟨⟨⟨hlo, ha⟩, hv⟩, h4⟩
      · simp only [wfCellsFrom, Bool.and_eq_true, decide_eq_true_eq]
        exact ⟨⟨⟨h1, h2⟩, h3⟩, ih h4 (by omega)⟩

theorem wfCellsFrom_eraseCell {lo : Nat} {m : List Cell} (h : wfCellsFrom lo m = true) (a : Nat) :
    wfCellsFrom lo (eraseCell m a) = true := by
  induction m generalizing lo with
  | nil => rfl
  | cons c rest ih =>
    obtain ⟨k, w⟩ := c
    simp only [wfCellsFrom, Bool.and_eq_true, decide_eq_true_eq] at h
    simp only [eraseCell]
    split
    · exact ih (wfCellsFrom_mono h.2 (by omega))
    · simp only [wfCellsFrom, Bool.and_eq_true, decide_eq_true_eq]
      exact ⟨h.1, ih h.2⟩

/-- A write keeps the canonical form. -/
theorem Memory.wf_write {m : Memory} (h : m.wf = true) (a v : Word) : (m.write a v).wf = true := by
  unfold Memory.write
  split
  · exact wfCellsFrom_eraseCell h _
  · next hv => exact wfCellsFrom_insertCell h (Nat.zero_le _) a.isLt hv

/-- Writing several words keeps the canonical form. -/
theorem Memory.wf_writeWords {m : Memory} (h : m.wf = true) (a : Word) (ws : List Word) :
    (m.writeWords a ws).wf = true := by
  induction ws generalizing m a with
  | nil => exact h
  | cons w ws ih => exact ih (Memory.wf_write h a w) (a + 1)

theorem wfCellsFrom_cellsOfImageFrom (ws : List Word) (a : Nat) (h : a + ws.length ≤ 65536) :
    wfCellsFrom a (cellsOfImageFrom a ws) = true := by
  induction ws generalizing a with
  | nil => rfl
  | cons w ws ih =>
    simp only [List.length_cons] at h
    have ih' := ih (a + 1) (by omega)
    simp only [cellsOfImageFrom]
    split
    · exact wfCellsFrom_mono ih' (by omega)
    · next hw =>
      simp only [wfCellsFrom, Bool.and_eq_true, decide_eq_true_eq]
      exact ⟨⟨⟨by omega, by omega⟩, hw⟩, ih'⟩

/-- The memory an image is loaded into is in canonical form. -/
theorem Memory.wf_ofImage {image : List Word} (h : image.length ≤ 65536) :
    (Memory.ofImage image).wf = true :=
  wfCellsFrom_cellsOfImageFrom image 0 (by omega)

/-- Reset memory is in canonical form. -/
theorem Memory.wf_reset : State.reset.memory.wf = true := rfl

end Sys2Proof.Machine
end

