-- ==== Sys2Proof/Laws/Operands.lean ====
section
/-! SUPPORT. What resolving, reading and writing an operand can do, said once. -/

namespace Sys2Proof.Machine

/-- Resolving an operand moves pc and sp as the operand says and does nothing else (40_operands.md R70, R84). -/
theorem resolve_state (role : Role) (o : Operand) (s : State) :
    (resolve role o s).2 = { s with pc := s.pc + o.pcMove, sp := s.sp + o.spMove role } := by
  cases o <;> cases role <;>
    simp [resolve, Operand.pcMove, Operand.spMove, Operand.takesWord, State.advancePc, State.setPc,
      State.setSp, BitVec.sub_eq_add_neg]

/-- Resolving both operands moves pc and sp by the two moves and does nothing else (R85). -/
theorem resolveBoth_state (b a : Operand) (s : State) :
    (resolveBoth b a s).state =
      { s with pc := s.pc + a.pcMove + b.pcMove, sp := s.sp + a.spMove .a + b.spMove .b } := by
  simp [resolveBoth, resolve_state]

/-- An operand resolves to a literal exactly when it is a literal operand (R84). -/
theorem resolve_isLit (role : Role) (o : Operand) (s : State) :
    (∃ v, (resolve role o s).1 = .lit v) ↔ o.isLiteral = true := by
  cases o <;> cases role <;> simp [resolve, Operand.isLiteral]

/-- An operand resolves to a register exactly when it names that register (R71, R84). -/
theorem resolve_isReg (role : Role) (o : Operand) (s : State) (r : Reg) :
    (resolve role o s).1 = .reg r ↔ o = .reg r := by
  cases o <;> cases role <;> simp [resolve]

theorem resolve_isPc (role : Role) (o : Operand) (s : State) : (resolve role o s).1 = .pc ↔ o = .pc := by
  cases o <;> cases role <;> simp [resolve]

theorem resolve_isSp (role : Role) (o : Operand) (s : State) : (resolve role o s).1 = .sp ↔ o = .sp := by
  cases o <;> cases role <;> simp [resolve]

theorem resolve_isEx (role : Role) (o : Operand) (s : State) : (resolve role o s).1 = .ex ↔ o = .ex := by
  cases o <;> cases role <;> simp [resolve]

/-! ## A write changes the one cell it names (R91) -/

theorem writeLoc_regs {s : State} {l : Loc} (v : Word) (h : ∀ r, l ≠ .reg r) :
    (writeLoc s l v).regs = s.regs := by
  cases l <;> first | rfl | exact absurd rfl (h _)

theorem writeLoc_getReg (s : State) (l : Loc) (v : Word) (r : Reg) :
    (writeLoc s l v).regs.get r = if l = .reg r then v else s.regs.get r := by
  cases l <;> simp [writeLoc, eq_comm]

theorem writeLoc_pc (s : State) (l : Loc) (v : Word) :
    (writeLoc s l v).pc = if l = .pc then v else s.pc := by
  cases l <;> simp [writeLoc]

theorem writeLoc_sp (s : State) (l : Loc) (v : Word) :
    (writeLoc s l v).sp = if l = .sp then v else s.sp := by
  cases l <;> simp [writeLoc]

theorem writeLoc_ex (s : State) (l : Loc) (v : Word) :
    (writeLoc s l v).ex = if l = .ex then v else s.ex := by
  cases l <;> simp [writeLoc]

theorem writeLoc_memory {s : State} {l : Loc} (v : Word) (h : ∀ a, l ≠ .mem a) :
    (writeLoc s l v).memory = s.memory := by
  cases l <;> first | rfl | exact absurd rfl (h _)

theorem writeLoc_memory_mem (s : State) (a v : Word) :
    (writeLoc s (.mem a) v).memory = s.memory.write a v := rfl

/-- Only a write through a literal touches the run state and the halt record (R91, R92). -/
theorem writeLoc_run {s : State} {l : Loc} (v : Word) (h : ∀ w, l ≠ .lit w) :
    (writeLoc s l v).run = s.run ∧ (writeLoc s l v).haltCause = s.haltCause ∧
      (writeLoc s l v).haltCode = s.haltCode := by
  cases l <;> first | exact ⟨rfl, rfl, rfl⟩ | exact absurd rfl (h _)

theorem writeLoc_lit (s : State) (w v : Word) :
    writeLoc s (.lit w) v = s.raiseHalt .literalWrite 0 := rfl

end Sys2Proof.Machine
end

