-- ==== Sys2Proof/Laws/Decode.lean ====
section
/-! SUPPORT. The operand codes and the decoder's tables agree with their inverses. -/

namespace Sys2Proof

@[simp] theorem Reg.ofIndex_index (r : Reg) : Reg.ofIndex r.index = r := by cases r <;> rfl

theorem Reg.index_ofIndex (k : BitVec 3) : (Reg.ofIndex k).index = k := by
  revert k; decide

/-- The code of an operand names that operand. -/
theorem Operand.ofCode_code (o : Operand) : Operand.ofCode o.code = o := by
  cases o with
  | reg r => cases r <;> rfl
  | memReg r => cases r <;> rfl
  | regPlusNext r => cases r <;> rfl
  | inline k => revert k; decide
  | _ => rfl

/-- The operand a code names has that code: the 64 codes and the operands are one to one. -/
theorem Operand.code_ofCode (c : BitVec 6) : (Operand.ofCode c).code = c := by
  revert c; decide

theorem Operand.ofCodeB_codeB {o : Operand} (h : o.allowedAsB = true) : Operand.ofCodeB o.codeB = o := by
  cases o with
  | reg r => cases r <;> rfl
  | memReg r => cases r <;> rfl
  | regPlusNext r => cases r <;> rfl
  | inline k => simp [Operand.allowedAsB] at h
  | _ => rfl

theorem Operand.codeB_ofCodeB (c : BitVec 5) : (Operand.ofCodeB c).codeB = c := by
  revert c; decide

/-- Operand b is never an inline literal (30_encoding.md R52). -/
theorem Operand.allowedAsB_ofCodeB (c : BitVec 5) : (Operand.ofCodeB c).allowedAsB = true := by
  revert c; decide

/-- `NeedsWord` of a code is what the operand does (30_encoding.md R56). -/
theorem takesWord_ofCode (c : BitVec 6) : (Operand.ofCode c).takesWord = needsWord c := by
  revert c; decide

/-- The instruction word gives its fields back. -/
theorem fields_packFields (f : Fields) :
    opcode (packFields f) = f.o ∧ opb (packFields f) = f.b ∧ spc (packFields f) = f.b
      ∧ opa (packFields f) = f.a := by
  obtain ⟨a, b, o⟩ := f
  simp only [opcode, opb, spc, opa, packFields]
  refine ⟨?_, ?_, ?_, ?_⟩ <;>
    (apply BitVec.eq_of_getLsbD_eq
     intro i hi
     simp only [BitVec.getLsbD_extractLsb', BitVec.getLsbD_append, hi, decide_true, Bool.true_and]
     repeat' split
     all_goals first | omega | (congr 1; omega))

/-- The fields give the instruction word back. -/
theorem packFields_fields (w : Word) : packFields ⟨opa w, opb w, opcode w⟩ = w := by
  apply BitVec.eq_of_getLsbD_eq
  intro i hi
  simp only [packFields, opcode, opb, opa, BitVec.getLsbD_append, BitVec.getLsbD_extractLsb']
  by_cases h5 : i < 5
  · simp [h5]
  · by_cases h10 : i - 5 < 5
    · simp [h5, h10, show 5 + (i - 5) = i by omega]
    · simp [h5, h10, show i - 5 - 5 < 6 by omega, show 10 + (i - 5 - 5) = i by omega]

end Sys2Proof
end

