-- ==== Sys2Proof/Laws/PerInstr.lean ====
section
/-! SUPPORT. Facts proved instruction by instruction: decoding an instruction's own fields gives it back. -/

namespace Sys2Proof.Laws.FieldsRoundTrip

/-- Decoding the fields of a well-formed instruction gives that instruction. -/
def Statement (i : Instr) : Prop :=
  i.wellFormed = true → decodeFields i.fields.o i.fields.b i.fields.a = i

theorem jsr (a : Operand) : Statement (.jsr a) := fun _ => congrArg Instr.jsr (Operand.ofCode_code a)
theorem set (b a : Operand) : Statement (.set b a) := fun h =>
  congrArg₂ Instr.set (Operand.ofCodeB_codeB h) (Operand.ofCode_code a)
theorem add (b a : Operand) : Statement (.add b a) := fun h =>
  congrArg₂ Instr.add (Operand.ofCodeB_codeB h) (Operand.ofCode_code a)
theorem sub (b a : Operand) : Statement (.sub b a) := fun h =>
  congrArg₂ Instr.sub (Operand.ofCodeB_codeB h) (Operand.ofCode_code a)
theorem ifb (b a : Operand) : Statement (.ifb b a) := fun h =>
  congrArg₂ Instr.ifb (Operand.ofCodeB_codeB h) (Operand.ofCode_code a)
theorem ifc (b a : Operand) : Statement (.ifc b a) := fun h =>
  congrArg₂ Instr.ifc (Operand.ofCodeB_codeB h) (Operand.ofCode_code a)
theorem ife (b a : Operand) : Statement (.ife b a) := fun h =>
  congrArg₂ Instr.ife (Operand.ofCodeB_codeB h) (Operand.ofCode_code a)
theorem ifn (b a : Operand) : Statement (.ifn b a) := fun h =>
  congrArg₂ Instr.ifn (Operand.ofCodeB_codeB h) (Operand.ofCode_code a)
theorem ifg (b a : Operand) : Statement (.ifg b a) := fun h =>
  congrArg₂ Instr.ifg (Operand.ofCodeB_codeB h) (Operand.ofCode_code a)
theorem ifa (b a : Operand) : Statement (.ifa b a) := fun h =>
  congrArg₂ Instr.ifa (Operand.ofCodeB_codeB h) (Operand.ofCode_code a)
theorem ifl (b a : Operand) : Statement (.ifl b a) := fun h =>
  congrArg₂ Instr.ifl (Operand.ofCodeB_codeB h) (Operand.ofCode_code a)
theorem ifu (b a : Operand) : Statement (.ifu b a) := fun h =>
  congrArg₂ Instr.ifu (Operand.ofCodeB_codeB h) (Operand.ofCode_code a)
theorem unknownOpcode04 (b a : Operand) : Statement (.unknownOpcode04 b a) := fun h =>
  congrArg₂ Instr.unknownOpcode04 (Operand.ofCodeB_codeB h) (Operand.ofCode_code a)
theorem unknownOpcode05 (b a : Operand) : Statement (.unknownOpcode05 b a) := fun h =>
  congrArg₂ Instr.unknownOpcode05 (Operand.ofCodeB_codeB h) (Operand.ofCode_code a)
theorem unknownOpcode06 (b a : Operand) : Statement (.unknownOpcode06 b a) := fun h =>
  congrArg₂ Instr.unknownOpcode06 (Operand.ofCodeB_codeB h) (Operand.ofCode_code a)
theorem unknownOpcode07 (b a : Operand) : Statement (.unknownOpcode07 b a) := fun h =>
  congrArg₂ Instr.unknownOpcode07 (Operand.ofCodeB_codeB h) (Operand.ofCode_code a)
theorem unknownOpcode08 (b a : Operand) : Statement (.unknownOpcode08 b a) := fun h =>
  congrArg₂ Instr.unknownOpcode08 (Operand.ofCodeB_codeB h) (Operand.ofCode_code a)
theorem unknownOpcode09 (b a : Operand) : Statement (.unknownOpcode09 b a) := fun h =>
  congrArg₂ Instr.unknownOpcode09 (Operand.ofCodeB_codeB h) (Operand.ofCode_code a)
theorem unknownOpcode0A (b a : Operand) : Statement (.unknownOpcode0A b a) := fun h =>
  congrArg₂ Instr.unknownOpcode0A (Operand.ofCodeB_codeB h) (Operand.ofCode_code a)
theorem unknownOpcode0B (b a : Operand) : Statement (.unknownOpcode0B b a) := fun h =>
  congrArg₂ Instr.unknownOpcode0B (Operand.ofCodeB_codeB h) (Operand.ofCode_code a)
theorem unknownOpcode0C (b a : Operand) : Statement (.unknownOpcode0C b a) := fun h =>
  congrArg₂ Instr.unknownOpcode0C (Operand.ofCodeB_codeB h) (Operand.ofCode_code a)
theorem unknownOpcode0D (b a : Operand) : Statement (.unknownOpcode0D b a) := fun h =>
  congrArg₂ Instr.unknownOpcode0D (Operand.ofCodeB_codeB h) (Operand.ofCode_code a)
theorem unknownOpcode0E (b a : Operand) : Statement (.unknownOpcode0E b a) := fun h =>
  congrArg₂ Instr.unknownOpcode0E (Operand.ofCodeB_codeB h) (Operand.ofCode_code a)
theorem unknownOpcode0F (b a : Operand) : Statement (.unknownOpcode0F b a) := fun h =>
  congrArg₂ Instr.unknownOpcode0F (Operand.ofCodeB_codeB h) (Operand.ofCode_code a)
theorem unknownOpcode18 (b a : Operand) : Statement (.unknownOpcode18 b a) := fun h =>
  congrArg₂ Instr.unknownOpcode18 (Operand.ofCodeB_codeB h) (Operand.ofCode_code a)
theorem unknownOpcode19 (b a : Operand) : Statement (.unknownOpcode19 b a) := fun h =>
  congrArg₂ Instr.unknownOpcode19 (Operand.ofCodeB_codeB h) (Operand.ofCode_code a)
theorem unknownOpcode1A (b a : Operand) : Statement (.unknownOpcode1A b a) := fun h =>
  congrArg₂ Instr.unknownOpcode1A (Operand.ofCodeB_codeB h) (Operand.ofCode_code a)
theorem unknownOpcode1B (b a : Operand) : Statement (.unknownOpcode1B b a) := fun h =>
  congrArg₂ Instr.unknownOpcode1B (Operand.ofCodeB_codeB h) (Operand.ofCode_code a)
theorem unknownOpcode1C (b a : Operand) : Statement (.unknownOpcode1C b a) := fun h =>
  congrArg₂ Instr.unknownOpcode1C (Operand.ofCodeB_codeB h) (Operand.ofCode_code a)
theorem unknownOpcode1D (b a : Operand) : Statement (.unknownOpcode1D b a) := fun h =>
  congrArg₂ Instr.unknownOpcode1D (Operand.ofCodeB_codeB h) (Operand.ofCode_code a)
theorem unknownOpcode1E (b a : Operand) : Statement (.unknownOpcode1E b a) := fun h =>
  congrArg₂ Instr.unknownOpcode1E (Operand.ofCodeB_codeB h) (Operand.ofCode_code a)
theorem unknownOpcode1F (b a : Operand) : Statement (.unknownOpcode1F b a) := fun h =>
  congrArg₂ Instr.unknownOpcode1F (Operand.ofCodeB_codeB h) (Operand.ofCode_code a)
theorem unknownSpecial00 (a : Operand) : Statement (.unknownSpecial00 a) := fun _ =>
  congrArg Instr.unknownSpecial00 (Operand.ofCode_code a)
theorem unknownSpecial02 (a : Operand) : Statement (.unknownSpecial02 a) := fun _ =>
  congrArg Instr.unknownSpecial02 (Operand.ofCode_code a)
theorem unknownSpecial03 (a : Operand) : Statement (.unknownSpecial03 a) := fun _ =>
  congrArg Instr.unknownSpecial03 (Operand.ofCode_code a)
theorem unknownSpecial04 (a : Operand) : Statement (.unknownSpecial04 a) := fun _ =>
  congrArg Instr.unknownSpecial04 (Operand.ofCode_code a)
theorem unknownSpecial05 (a : Operand) : Statement (.unknownSpecial05 a) := fun _ =>
  congrArg Instr.unknownSpecial05 (Operand.ofCode_code a)
theorem unknownSpecial06 (a : Operand) : Statement (.unknownSpecial06 a) := fun _ =>
  congrArg Instr.unknownSpecial06 (Operand.ofCode_code a)
theorem unknownSpecial07 (a : Operand) : Statement (.unknownSpecial07 a) := fun _ =>
  congrArg Instr.unknownSpecial07 (Operand.ofCode_code a)
theorem unknownSpecial08 (a : Operand) : Statement (.unknownSpecial08 a) := fun _ =>
  congrArg Instr.unknownSpecial08 (Operand.ofCode_code a)
theorem unknownSpecial09 (a : Operand) : Statement (.unknownSpecial09 a) := fun _ =>
  congrArg Instr.unknownSpecial09 (Operand.ofCode_code a)
theorem unknownSpecial0A (a : Operand) : Statement (.unknownSpecial0A a) := fun _ =>
  congrArg Instr.unknownSpecial0A (Operand.ofCode_code a)
theorem unknownSpecial0B (a : Operand) : Statement (.unknownSpecial0B a) := fun _ =>
  congrArg Instr.unknownSpecial0B (Operand.ofCode_code a)
theorem unknownSpecial0C (a : Operand) : Statement (.unknownSpecial0C a) := fun _ =>
  congrArg Instr.unknownSpecial0C (Operand.ofCode_code a)
theorem unknownSpecial0D (a : Operand) : Statement (.unknownSpecial0D a) := fun _ =>
  congrArg Instr.unknownSpecial0D (Operand.ofCode_code a)
theorem unknownSpecial0E (a : Operand) : Statement (.unknownSpecial0E a) := fun _ =>
  congrArg Instr.unknownSpecial0E (Operand.ofCode_code a)
theorem unknownSpecial0F (a : Operand) : Statement (.unknownSpecial0F a) := fun _ =>
  congrArg Instr.unknownSpecial0F (Operand.ofCode_code a)
theorem unknownSpecial10 (a : Operand) : Statement (.unknownSpecial10 a) := fun _ =>
  congrArg Instr.unknownSpecial10 (Operand.ofCode_code a)
theorem unknownSpecial11 (a : Operand) : Statement (.unknownSpecial11 a) := fun _ =>
  congrArg Instr.unknownSpecial11 (Operand.ofCode_code a)
theorem unknownSpecial12 (a : Operand) : Statement (.unknownSpecial12 a) := fun _ =>
  congrArg Instr.unknownSpecial12 (Operand.ofCode_code a)
theorem unknownSpecial13 (a : Operand) : Statement (.unknownSpecial13 a) := fun _ =>
  congrArg Instr.unknownSpecial13 (Operand.ofCode_code a)
theorem unknownSpecial14 (a : Operand) : Statement (.unknownSpecial14 a) := fun _ =>
  congrArg Instr.unknownSpecial14 (Operand.ofCode_code a)
theorem unknownSpecial15 (a : Operand) : Statement (.unknownSpecial15 a) := fun _ =>
  congrArg Instr.unknownSpecial15 (Operand.ofCode_code a)
theorem unknownSpecial16 (a : Operand) : Statement (.unknownSpecial16 a) := fun _ =>
  congrArg Instr.unknownSpecial16 (Operand.ofCode_code a)
theorem unknownSpecial17 (a : Operand) : Statement (.unknownSpecial17 a) := fun _ =>
  congrArg Instr.unknownSpecial17 (Operand.ofCode_code a)
theorem unknownSpecial18 (a : Operand) : Statement (.unknownSpecial18 a) := fun _ =>
  congrArg Instr.unknownSpecial18 (Operand.ofCode_code a)
theorem unknownSpecial19 (a : Operand) : Statement (.unknownSpecial19 a) := fun _ =>
  congrArg Instr.unknownSpecial19 (Operand.ofCode_code a)
theorem unknownSpecial1A (a : Operand) : Statement (.unknownSpecial1A a) := fun _ =>
  congrArg Instr.unknownSpecial1A (Operand.ofCode_code a)
theorem unknownSpecial1B (a : Operand) : Statement (.unknownSpecial1B a) := fun _ =>
  congrArg Instr.unknownSpecial1B (Operand.ofCode_code a)
theorem unknownSpecial1C (a : Operand) : Statement (.unknownSpecial1C a) := fun _ =>
  congrArg Instr.unknownSpecial1C (Operand.ofCode_code a)
theorem unknownSpecial1D (a : Operand) : Statement (.unknownSpecial1D a) := fun _ =>
  congrArg Instr.unknownSpecial1D (Operand.ofCode_code a)
theorem unknownSpecial1E (a : Operand) : Statement (.unknownSpecial1E a) := fun _ =>
  congrArg Instr.unknownSpecial1E (Operand.ofCode_code a)
theorem unknownSpecial1F (a : Operand) : Statement (.unknownSpecial1F a) := fun _ =>
  congrArg Instr.unknownSpecial1F (Operand.ofCode_code a)

end Sys2Proof.Laws.FieldsRoundTrip
end

