-- ==== Sys2Proof/Laws/Exec.lean ====
section
/-! SUPPORT. What the shared meanings, exec and step can do, said once. -/

namespace Sys2Proof.Machine

/-- The five shapes of a meaning: JSR; a write through operand b; a skip; and the two halts. -/
theorem exec_form (i : Instr) :
    (∃ a, i = .jsr a) ∨
    (∃ f b a, (i = .set b a ∨ i = .add b a ∨ i = .sub b a) ∧ ∀ s, exec i s = writeResult f b a s) ∨
    (∃ p c b a, (c, p) ∈ conditionals ∧ i = c b a ∧ ∀ s, exec i s = skipUnless p b a s) ∨
    (∃ o c b a, (o, c) ∈ unknownBasicRows ∧ i = c b a ∧ ∀ s, exec i s = haltUnknownOpcode o b a s) ∨
    (∃ k c a, (k, c) ∈ unknownSpecialRows ∧ i = c a ∧ ∀ s, exec i s = haltUnknownSpecial k a s) := by
  cases i
  case jsr a => exact .inl ⟨a, rfl⟩
  case set b a => exact .inr (.inl ⟨fun _ va => va, b, a, .inl rfl, fun _ => rfl⟩)
  case add b a => exact .inr (.inl ⟨fun vb va => vb + va, b, a, .inr (.inl rfl), fun _ => rfl⟩)
  case sub b a => exact .inr (.inl ⟨fun vb va => vb - va, b, a, .inr (.inr rfl), fun _ => rfl⟩)
  all_goals refine .inr (.inr ?_)
  case ifb b a => exact .inl ⟨predIfb, .ifb, b, a, by simp [conditionals], rfl, fun _ => rfl⟩
  case ifc b a => exact .inl ⟨predIfc, .ifc, b, a, by simp [conditionals], rfl, fun _ => rfl⟩
  case ife b a => exact .inl ⟨predIfe, .ife, b, a, by simp [conditionals], rfl, fun _ => rfl⟩
  case ifn b a => exact .inl ⟨predIfn, .ifn, b, a, by simp [conditionals], rfl, fun _ => rfl⟩
  case ifg b a => exact .inl ⟨predIfg, .ifg, b, a, by simp [conditionals], rfl, fun _ => rfl⟩
  case ifa b a => exact .inl ⟨predIfa, .ifa, b, a, by simp [conditionals], rfl, fun _ => rfl⟩
  case ifl b a => exact .inl ⟨predIfl, .ifl, b, a, by simp [conditionals], rfl, fun _ => rfl⟩
  case ifu b a => exact .inl ⟨predIfu, .ifu, b, a, by simp [conditionals], rfl, fun _ => rfl⟩
  all_goals refine .inr ?_
  case unknownOpcode04 b a => exact .inl ⟨0x04, .unknownOpcode04, b, a, by simp [unknownBasicRows], rfl, fun _ => rfl⟩
  case unknownOpcode05 b a => exact .inl ⟨0x05, .unknownOpcode05, b, a, by simp [unknownBasicRows], rfl, fun _ => rfl⟩
  case unknownOpcode06 b a => exact .inl ⟨0x06, .unknownOpcode06, b, a, by simp [unknownBasicRows], rfl, fun _ => rfl⟩
  case unknownOpcode07 b a => exact .inl ⟨0x07, .unknownOpcode07, b, a, by simp [unknownBasicRows], rfl, fun _ => rfl⟩
  case unknownOpcode08 b a => exact .inl ⟨0x08, .unknownOpcode08, b, a, by simp [unknownBasicRows], rfl, fun _ => rfl⟩
  case unknownOpcode09 b a => exact .inl ⟨0x09, .unknownOpcode09, b, a, by simp [unknownBasicRows], rfl, fun _ => rfl⟩
  case unknownOpcode0A b a => exact .inl ⟨0x0a, .unknownOpcode0A, b, a, by simp [unknownBasicRows], rfl, fun _ => rfl⟩
  case unknownOpcode0B b a => exact .inl ⟨0x0b, .unknownOpcode0B, b, a, by simp [unknownBasicRows], rfl, fun _ => rfl⟩
  case unknownOpcode0C b a => exact .inl ⟨0x0c, .unknownOpcode0C, b, a, by simp [unknownBasicRows], rfl, fun _ => rfl⟩
  case unknownOpcode0D b a => exact .inl ⟨0x0d, .unknownOpcode0D, b, a, by simp [unknownBasicRows], rfl, fun _ => rfl⟩
  case unknownOpcode0E b a => exact .inl ⟨0x0e, .unknownOpcode0E, b, a, by simp [unknownBasicRows], rfl, fun _ => rfl⟩
  case unknownOpcode0F b a => exact .inl ⟨0x0f, .unknownOpcode0F, b, a, by simp [unknownBasicRows], rfl, fun _ => rfl⟩
  case unknownOpcode18 b a => exact .inl ⟨0x18, .unknownOpcode18, b, a, by simp [unknownBasicRows], rfl, fun _ => rfl⟩
  case unknownOpcode19 b a => exact .inl ⟨0x19, .unknownOpcode19, b, a, by simp [unknownBasicRows], rfl, fun _ => rfl⟩
  case unknownOpcode1A b a => exact .inl ⟨0x1a, .unknownOpcode1A, b, a, by simp [unknownBasicRows], rfl, fun _ => rfl⟩
  case unknownOpcode1B b a => exact .inl ⟨0x1b, .unknownOpcode1B, b, a, by simp [unknownBasicRows], rfl, fun _ => rfl⟩
  case unknownOpcode1C b a => exact .inl ⟨0x1c, .unknownOpcode1C, b, a, by simp [unknownBasicRows], rfl, fun _ => rfl⟩
  case unknownOpcode1D b a => exact .inl ⟨0x1d, .unknownOpcode1D, b, a, by simp [unknownBasicRows], rfl, fun _ => rfl⟩
  case unknownOpcode1E b a => exact .inl ⟨0x1e, .unknownOpcode1E, b, a, by simp [unknownBasicRows], rfl, fun _ => rfl⟩
  case unknownOpcode1F b a => exact .inl ⟨0x1f, .unknownOpcode1F, b, a, by simp [unknownBasicRows], rfl, fun _ => rfl⟩
  all_goals refine .inr ?_
  case unknownSpecial00 a => exact ⟨0x00, .unknownSpecial00, a, by simp [unknownSpecialRows], rfl, fun _ => rfl⟩
  case unknownSpecial02 a => exact ⟨0x02, .unknownSpecial02, a, by simp [unknownSpecialRows], rfl, fun _ => rfl⟩
  case unknownSpecial03 a => exact ⟨0x03, .unknownSpecial03, a, by simp [unknownSpecialRows], rfl, fun _ => rfl⟩
  case unknownSpecial04 a => exact ⟨0x04, .unknownSpecial04, a, by simp [unknownSpecialRows], rfl, fun _ => rfl⟩
  case unknownSpecial05 a => exact ⟨0x05, .unknownSpecial05, a, by simp [unknownSpecialRows], rfl, fun _ => rfl⟩
  case unknownSpecial06 a => exact ⟨0x06, .unknownSpecial06, a, by simp [unknownSpecialRows], rfl, fun _ => rfl⟩
  case unknownSpecial07 a => exact ⟨0x07, .unknownSpecial07, a, by simp [unknownSpecialRows], rfl, fun _ => rfl⟩
  case unknownSpecial08 a => exact ⟨0x08, .unknownSpecial08, a, by simp [unknownSpecialRows], rfl, fun _ => rfl⟩
  case unknownSpecial09 a => exact ⟨0x09, .unknownSpecial09, a, by simp [unknownSpecialRows], rfl, fun _ => rfl⟩
  case unknownSpecial0A a => exact ⟨0x0a, .unknownSpecial0A, a, by simp [unknownSpecialRows], rfl, fun _ => rfl⟩
  case unknownSpecial0B a => exact ⟨0x0b, .unknownSpecial0B, a, by simp [unknownSpecialRows], rfl, fun _ => rfl⟩
  case unknownSpecial0C a => exact ⟨0x0c, .unknownSpecial0C, a, by simp [unknownSpecialRows], rfl, fun _ => rfl⟩
  case unknownSpecial0D a => exact ⟨0x0d, .unknownSpecial0D, a, by simp [unknownSpecialRows], rfl, fun _ => rfl⟩
  case unknownSpecial0E a => exact ⟨0x0e, .unknownSpecial0E, a, by simp [unknownSpecialRows], rfl, fun _ => rfl⟩
  case unknownSpecial0F a => exact ⟨0x0f, .unknownSpecial0F, a, by simp [unknownSpecialRows], rfl, fun _ => rfl⟩
  case unknownSpecial10 a => exact ⟨0x10, .unknownSpecial10, a, by simp [unknownSpecialRows], rfl, fun _ => rfl⟩
  case unknownSpecial11 a => exact ⟨0x11, .unknownSpecial11, a, by simp [unknownSpecialRows], rfl, fun _ => rfl⟩
  case unknownSpecial12 a => exact ⟨0x12, .unknownSpecial12, a, by simp [unknownSpecialRows], rfl, fun _ => rfl⟩
  case unknownSpecial13 a => exact ⟨0x13, .unknownSpecial13, a, by simp [unknownSpecialRows], rfl, fun _ => rfl⟩
  case unknownSpecial14 a => exact ⟨0x14, .unknownSpecial14, a, by simp [unknownSpecialRows], rfl, fun _ => rfl⟩
  case unknownSpecial15 a => exact ⟨0x15, .unknownSpecial15, a, by simp [unknownSpecialRows], rfl, fun _ => rfl⟩
  case unknownSpecial16 a => exact ⟨0x16, .unknownSpecial16, a, by simp [unknownSpecialRows], rfl, fun _ => rfl⟩
  case unknownSpecial17 a => exact ⟨0x17, .unknownSpecial17, a, by simp [unknownSpecialRows], rfl, fun _ => rfl⟩
  case unknownSpecial18 a => exact ⟨0x18, .unknownSpecial18, a, by simp [unknownSpecialRows], rfl, fun _ => rfl⟩
  case unknownSpecial19 a => exact ⟨0x19, .unknownSpecial19, a, by simp [unknownSpecialRows], rfl, fun _ => rfl⟩
  case unknownSpecial1A a => exact ⟨0x1a, .unknownSpecial1A, a, by simp [unknownSpecialRows], rfl, fun _ => rfl⟩
  case unknownSpecial1B a => exact ⟨0x1b, .unknownSpecial1B, a, by simp [unknownSpecialRows], rfl, fun _ => rfl⟩
  case unknownSpecial1C a => exact ⟨0x1c, .unknownSpecial1C, a, by simp [unknownSpecialRows], rfl, fun _ => rfl⟩
  case unknownSpecial1D a => exact ⟨0x1d, .unknownSpecial1D, a, by simp [unknownSpecialRows], rfl, fun _ => rfl⟩
  case unknownSpecial1E a => exact ⟨0x1e, .unknownSpecial1E, a, by simp [unknownSpecialRows], rfl, fun _ => rfl⟩
  case unknownSpecial1F a => exact ⟨0x1f, .unknownSpecial1F, a, by simp [unknownSpecialRows], rfl, fun _ => rfl⟩

/-! ## One lemma per shared meaning: everything the next state can be -/

theorem execJsr_next {a : Operand} {s t : State} (h : execJsr a s = .next t) :
    t = ((resolve .a a s).2.push (resolve .a a s).2.pc).setPc
      (readLoc ((resolve .a a s).2.push (resolve .a a s).2.pc) (resolve .a a s).1) := by
  simpa [execJsr] using h.symm

theorem writeResult_next {f : Word → Word → Word} {b a : Operand} {s t : State}
    (h : writeResult f b a s = .next t) :
    t = writeLoc (resolveBoth b a s).state (resolveBoth b a s).locB
      (f (resolveBoth b a s).valueB (resolveBoth b a s).valueA) := by
  simpa [writeResult] using h.symm

theorem skipUnless_next {p : Word → Word → Bool} {b a : Operand} {s t : State}
    (h : skipUnless p b a s = .next t) :
    t = if p (resolveBoth b a s).valueB (resolveBoth b a s).valueA then (resolveBoth b a s).state
      else (resolveBoth b a s).state.skipNext := by
  simpa [skipUnless] using h.symm

theorem haltUnknownOpcode_next {o : BitVec 5} {b a : Operand} {s t : State}
    (h : haltUnknownOpcode o b a s = .next t) :
    t = (resolveBoth b a s).state.raiseHalt .unknownOpcode o := by
  simpa [haltUnknownOpcode] using h.symm

theorem haltUnknownSpecial_next {k : BitVec 5} {a : Operand} {s t : State}
    (h : haltUnknownSpecial k a s = .next t) :
    t = (resolve .a a s).2.raiseHalt .unknownSpecialOpcode k := by
  simpa [haltUnknownSpecial] using h.symm

/-! ## The step -/

theorem step_of_running {s : State} (h : s.run = .running) :
    step s = exec (decodeWord (s.memory.read s.pc)) { s with pc := s.pc + 1 } := by
  unfold step
  split
  · rfl
  · simp_all

theorem step_of_halted {s : State} (h : s.run = .halted) : step s = .fault .noStepWhenHalted := by
  simp [step, h]

/-- A step answers a next state only from a running machine. -/
theorem running_of_step {s t : State} (h : step s = .next t) : s.run = .running := by
  cases hr : s.run with
  | running => rfl
  | halted => rw [step_of_halted hr] at h; cases h

end Sys2Proof.Machine
end

