-- ==== Sys2Proof/Laws/Configured.lean ====
section
/-! SUPPORT. What the machine under given parameters can do, said once: the five kinds of arm, and its step. -/

namespace Sys2Proof.Machine

/-- The halt condition of a word with the decided numbers, in the names of Config. -/
theorem haltOfWord_eq (w : Word) : haltOfWord w =
    if opcode w = Config.opcSpecial then
      if spc w = Config.spcJsr then none else some (.unknownSpecialOpcode, spc w)
    else if opcode w ∈ Config.implementedBase then
      if opcode w ∈ [Config.opcSet, Config.opcAdd, Config.opcSub] ∧ opb w ∈ literalCodesB then
        some (.literalWrite, 0)
      else none
    else some (.unknownOpcode, opcode w) := rfl

theorem stepWith_of_running {p : Parameters} {s : State} (h : s.run = .running) :
    stepWith p s = execArm (p.arm (s.memory.read s.pc)) { s with pc := s.pc + 1 } := by
  unfold stepWith
  split
  · rfl
  · simp_all

theorem stepWith_of_halted {p : Parameters} {s : State} (h : s.run = .halted) :
    stepWith p s = .fault .noStepWhenHalted := by
  simp [stepWith, h]

/-- A step under any parameters answers a next state only from a running machine. -/
theorem running_of_stepWith {p : Parameters} {s t : State} (h : stepWith p s = .next t) : s.run = .running := by
  cases hr : s.run with
  | running => rfl
  | halted => rw [stepWith_of_halted hr] at h; cases h

/-- The meanings that write through operand b, with the value they write. -/
theorem exec_writeOps {q : (Operand → Operand → Instr) × (Word → Word → Word)} (hq : q ∈ writeOps)
    (b a : Operand) (s : State) : exec (q.1 b a) s = writeResult q.2 b a s := by
  simp only [writeOps, List.mem_cons, List.not_mem_nil, or_false] at hq
  rcases hq with rfl | rfl | rfl <;> rfl

/-- The arm a word takes, under any parameters: JSR, an unknown special opcode, a write through operand b, a
skip-conditional, or an unknown base opcode (41_step.md R105). -/
theorem arm_cases (p : Parameters) (w : Word) :
    (opcode w = 0 ∧ spc w = p.spcJsr ∧ p.arm w = .implemented (.jsr (Operand.ofCode (opa w)))) ∨
    (opcode w = 0 ∧ spc w ≠ p.spcJsr ∧ p.arm w = .unknownSpecial (spc w) (Operand.ofCode (opa w))) ∨
    (∃ q ∈ writeOps, opcode w ≠ 0 ∧ opcode w ∈ [p.opcSet, p.opcAdd, p.opcSub] ∧
      p.arm w = .implemented (q.1 (Operand.ofCodeB (opb w)) (Operand.ofCode (opa w)))) ∨
    (∃ q ∈ conditionals, opcode w ≠ 0 ∧ opcode w ∈ p.implementedBase ∧
      opcode w ∉ [p.opcSet, p.opcAdd, p.opcSub] ∧
      p.arm w = .implemented (q.1 (Operand.ofCodeB (opb w)) (Operand.ofCode (opa w)))) ∨
    (opcode w ≠ 0 ∧ opcode w ∉ p.implementedBase ∧
      p.arm w = .unknownOpcode (opcode w) (Operand.ofCodeB (opb w)) (Operand.ofCode (opa w))) := by
  simp only [Parameters.arm, Parameters.armOfFields, show spc w = opb w from rfl]
  by_cases h0 : opcode w = 0
  · by_cases h1 : opb w = p.spcJsr
    · exact .inl ⟨h0, h1, by rw [if_pos h0, if_pos h1]⟩
    · exact .inr (.inl ⟨h0, h1, by rw [if_pos h0, if_neg h1]⟩)
  refine .inr (.inr ?_)
  rw [if_neg h0]
  by_cases a1 : opcode w = p.opcSet
  · exact .inl ⟨_, .head _, h0, by simp [a1], by rw [if_pos a1]⟩
  rw [if_neg a1]
  by_cases a2 : opcode w = p.opcAdd
  · exact .inl ⟨_, .tail _ (.head _), h0, by simp [a2], by rw [if_pos a2]⟩
  rw [if_neg a2]
  by_cases a3 : opcode w = p.opcSub
  · exact .inl ⟨_, .tail _ (.tail _ (.head _)), h0, by simp [a3], by rw [if_pos a3]⟩
  rw [if_neg a3]
  have hn : opcode w ∉ [p.opcSet, p.opcAdd, p.opcSub] := by simp [a1, a2, a3]
  refine .inr ?_
  by_cases b1 : opcode w = p.opcIfb
  · exact .inl ⟨(.ifb, predIfb), by simp [conditionals], h0, by simp [Parameters.implementedBase, b1], hn,
      by rw [if_pos b1]⟩
  rw [if_neg b1]
  by_cases b2 : opcode w = p.opcIfc
  · exact .inl ⟨(.ifc, predIfc), by simp [conditionals], h0, by simp [Parameters.implementedBase, b2], hn,
      by rw [if_pos b2]⟩
  rw [if_neg b2]
  by_cases b3 : opcode w = p.opcIfe
  · exact .inl ⟨(.ife, predIfe), by simp [conditionals], h0, by simp [Parameters.implementedBase, b3], hn,
      by rw [if_pos b3]⟩
  rw [if_neg b3]
  by_cases b4 : opcode w = p.opcIfn
  · exact .inl ⟨(.ifn, predIfn), by simp [conditionals], h0, by simp [Parameters.implementedBase, b4], hn,
      by rw [if_pos b4]⟩
  rw [if_neg b4]
  by_cases b5 : opcode w = p.opcIfg
  · exact .inl ⟨(.ifg, predIfg), by simp [conditionals], h0, by simp [Parameters.implementedBase, b5], hn,
      by rw [if_pos b5]⟩
  rw [if_neg b5]
  by_cases b6 : opcode w = p.opcIfa
  · exact .inl ⟨(.ifa, predIfa), by simp [conditionals], h0, by simp [Parameters.implementedBase, b6], hn,
      by rw [if_pos b6]⟩
  rw [if_neg b6]
  by_cases b7 : opcode w = p.opcIfl
  · exact .inl ⟨(.ifl, predIfl), by simp [conditionals], h0, by simp [Parameters.implementedBase, b7], hn,
      by rw [if_pos b7]⟩
  rw [if_neg b7]
  by_cases b8 : opcode w = p.opcIfu
  · exact .inl ⟨(.ifu, predIfu), by simp [conditionals], h0, by simp [Parameters.implementedBase, b8], hn,
      by rw [if_pos b8]⟩
  rw [if_neg b8]
  exact .inr ⟨h0, by simp [Parameters.implementedBase, a1, a2, a3, b1, b2, b3, b4, b5, b6, b7, b8], rfl⟩

end Sys2Proof.Machine
end

