-- ==== Sys2Proof/Tests/Slice0.lean ====
section
/-! SUPPORT. Tests. Words and results are those of the spec: the rows cited (`V..`, `S..`) are of
95_test_vectors.md; a word in binary is written out from the layout `aaaaaa bbbbb ooooo` of 30_encoding.md
section 1 and the code tables of 30_encoding.md section 3 and 40_operands.md section 1. -/

namespace Sys2Proof.Tests

open Sys2Proof.Machine

/-! ## WellFormed: an inline literal does not fit the five bits of operand b -/

theorem test_wf_refuses_inline_b :
    ([.set, .add, .sub, .ifb, .ifc, .ife, .ifn, .ifg, .ifa, .ifl, .ifu, .unknownOpcode04, .unknownOpcode1F]
      : List (Operand → Operand → Instr)).all
        (fun i => !(i (.inline 5) (.reg .a)).wellFormed && (i .next (.inline 5)).wellFormed) = true := by
  decide

theorem test_wf_accepts_special : (Instr.jsr (.inline 5)).wellFormed = true ∧
    (Instr.unknownSpecial1F (.inline 31)).wellFormed = true := by decide

/-! ## Decode -/

/-- Fields and lengths, table V1: word, opcode, b or s, a, Len. -/
theorem test_fields_and_length :
    ([(0x0020, 0x00, 0x01, 0x00, 1), (0x03e0, 0x00, 0x1f, 0x00, 1), (0xffff, 0x1f, 0x1f, 0x3f, 2),
      (0x7fc1, 0x01, 0x1e, 0x1f, 3), (0x7fe0, 0x00, 0x1f, 0x1f, 2), (0x6b41, 0x01, 0x1a, 0x1a, 3),
      (0x5e17, 0x17, 0x10, 0x17, 3), (0x6001, 0x01, 0x00, 0x18, 1), (0x8000, 0x00, 0x00, 0x20, 1),
      (0xabcd, 0x0d, 0x1e, 0x2a, 2), (0x1234, 0x14, 0x11, 0x04, 2)]
      : List (Word × BitVec 5 × BitVec 5 × BitVec 6 × Nat)).all
      (fun r => opcode r.1 == r.2.1 && opb r.1 == r.2.2.1 && spc r.1 == r.2.2.1 && opa r.1 == r.2.2.2.1
        && len r.1 == r.2.2.2.2) = true := by
  decide

/-! Every constructor, by a word written out bit by bit (fields 6, 5, 5). -/

theorem test_decode_basic :
    ([(0b0010101100000001, .set .stack (.memReg .c)),
      (0b0110101111000010, .add .memNext .spPlusNext),
      (0b0111100101000011, .sub (.memReg .c) .memNext),
      (0b0111011101010000, .ifb .spPlusNext .ex),
      (0b0001110011110001, .ifc (.reg .j) (.reg .j)),
      (0b1111111100010010, .ife .stack (.inline 31)),
      (0b0110001111010011, .ifn .memNext .stack),
      (0b0111000101010100, .ifg (.memReg .c) .pc),
      (0b1100011110010101, .ifa .pc (.inline 17)),
      (0b1000001010010110, .ifl (.regPlusNext .y) (.inline 0)),
      (0b0100111101010111, .ifu .spPlusNext (.regPlusNext .x))]
      : List (Word × Instr)).all (fun r => decodeWord r.1 == r.2) = true := by
  decide

theorem test_decode_unknown_base_low :
    ([(0b0110011101100100, .unknownOpcode04 .sp .memSp),
      (0b0111010111100101, .unknownOpcode05 (.memReg .j) .ex),
      (0b0001111100100110, .unknownOpcode06 .memSp (.reg .j)),
      (0b1111111111100111, .unknownOpcode07 .next (.inline 31)),
      (0b0110001001101000, .unknownOpcode08 (.regPlusNext .x) .stack),
      (0b0111001110101001, .unknownOpcode09 .ex .pc),
      (0b1100010000001010, .unknownOpcode0A (.reg .a) (.inline 17)),
      (0b1000001101101011, .unknownOpcode0B .sp (.inline 0)),
      (0b0100110111101100, .unknownOpcode0C (.memReg .j) (.regPlusNext .x)),
      (0b0110111100101101, .unknownOpcode0D .memSp .sp)]
      : List (Word × Instr)).all (fun r => decodeWord r.1 == r.2) = true := by
  decide

theorem test_decode_unknown_base_high :
    ([(0b0101001001101110, .unknownOpcode0E (.regPlusNext .x) (.regPlusNext .y)),
      (0b0010101110101111, .unknownOpcode0F .ex (.memReg .c)),
      (0b0011111110111000, .unknownOpcode18 .ex (.memReg .j)),
      (0b0000000000011001, .unknownOpcode19 (.reg .a) (.reg .a)),
      (0b0110011101111010, .unknownOpcode1A .sp .memSp),
      (0b0111010111111011, .unknownOpcode1B (.memReg .j) .ex),
      (0b0001111100111100, .unknownOpcode1C .memSp (.reg .j)),
      (0b1111111111111101, .unknownOpcode1D .next (.inline 31)),
      (0b0110001001111110, .unknownOpcode1E (.regPlusNext .x) .stack),
      (0b0111001110111111, .unknownOpcode1F .ex .pc)]
      : List (Word × Instr)).all (fun r => decodeWord r.1 == r.2) = true := by
  decide

theorem test_decode_special_low :
    ([(0b0000000000000000, .unknownSpecial00 (.reg .a)),
      (0b0110010000100000, .jsr .memSp),
      (0b0111010001000000, .unknownSpecial02 .ex),
      (0b0001110001100000, .unknownSpecial03 (.reg .j)),
      (0b1111110010000000, .unknownSpecial04 (.inline 31)),
      (0b0110000010100000, .unknownSpecial05 .stack),
      (0b0111000011000000, .unknownSpecial06 .pc),
      (0b1100010011100000, .unknownSpecial07 (.inline 17)),
      (0b1000000100000000, .unknownSpecial08 (.inline 0)),
      (0b0100110100100000, .unknownSpecial09 (.regPlusNext .x)),
      (0b0110110101000000, .unknownSpecial0A .sp)]
      : List (Word × Instr)).all (fun r => decodeWord r.1 == r.2) = true := by
  decide

theorem test_decode_special_mid :
    ([(0b1100010101100000, .unknownSpecial0B (.inline 17)),
      (0b1000000110000000, .unknownSpecial0C (.inline 0)),
      (0b0100110110100000, .unknownSpecial0D (.regPlusNext .x)),
      (0b0110110111000000, .unknownSpecial0E .sp),
      (0b0111110111100000, .unknownSpecial0F .next),
      (0b0101001000000000, .unknownSpecial10 (.regPlusNext .y)),
      (0b0010101000100000, .unknownSpecial11 (.memReg .c)),
      (0b0110101001000000, .unknownSpecial12 .spPlusNext),
      (0b0111101001100000, .unknownSpecial13 .memNext),
      (0b0011111010000000, .unknownSpecial14 (.memReg .j)),
      (0b0000001010100000, .unknownSpecial15 (.reg .a))]
      : List (Word × Instr)).all (fun r => decodeWord r.1 == r.2) = true := by
  decide

theorem test_decode_special_high :
    ([(0b0110101011000000, .unknownSpecial16 .spPlusNext),
      (0b0111101011100000, .unknownSpecial17 .memNext),
      (0b0011111100000000, .unknownSpecial18 (.memReg .j)),
      (0b0000001100100000, .unknownSpecial19 (.reg .a)),
      (0b0110011101000000, .unknownSpecial1A .memSp),
      (0b0111011101100000, .unknownSpecial1B .ex),
      (0b0001111110000000, .unknownSpecial1C (.reg .j)),
      (0b1111111110100000, .unknownSpecial1D (.inline 31)),
      (0b0110001111000000, .unknownSpecial1E .stack),
      (0b0111001111100000, .unknownSpecial1F .pc)]
      : List (Word × Instr)).all (fun r => decodeWord r.1 == r.2) = true := by
  decide

theorem test_decode_refuses_by_name :
    decode [] = .error .noInstructionWord ∧ decode [0x7fc1, 0x1234] = .error .missingExtraWords ∧
    decode [0x7fc1, 0x1234, 0x2000, 0x8c61] = .ok (.set .memNext .next, [0x1234, 0x2000], [0x8c61]) :=
  ⟨rfl, rfl, rfl⟩

/-- The words of S7 and of P2, encoded. -/
theorem test_encode_spec_words :
    encode (.set (.reg .a) (.inline 17)) = 0xc401 ∧ encode (.set (.reg .b) .next) = 0x7c21 ∧
    encode (.add (.reg .b) (.reg .a)) = 0x0022 ∧ encode (.jsr (.inline 9)) = 0xa420 ∧
    encode (.set .pc .stack) = 0x6381 := by decide

theorem test_table_word : decodeTableWord 16 0x7fc1 = some (.set .memNext .next) ∧
    decodeTableWord 16 0x0000 = some (.unknownSpecial00 (.reg .a)) := by decide

/-- The numbering of the eight skip-conditionals that 92_eei_decisions.md D2 sets aside, in the document's list
order; and another JSR number, another content outside the image and the other byte order. -/
def otherParameters : Parameters :=
  { Config.decided with
    opcIfc := 0x10, opcIfb := 0x11, opcIfl := 0x14, opcIfu := 0x15, opcIfg := 0x16, opcIfa := 0x17
    spcJsr := 0x1f, outsideImage := fun a => a + 1, imageByteOrder := .littleEndian }

/-- Under it the same words take other arms, and special opcode 1 is unknown. -/
theorem test_other_numbering :
    otherParameters.valid = true ∧ { otherParameters with opcIfu := 0x01 }.valid = false ∧
    { otherParameters with spcJsr := 0 }.valid = false ∧ { otherParameters with opcSet := 0 }.valid = false ∧
    otherParameters.arm 0x8810 = .implemented (.ifc (.reg .a) (.inline 2)) ∧
    otherParameters.arm 0x03e0 = .implemented (.jsr (.reg .a)) ∧
    otherParameters.arm 0x0020 = .unknownSpecial 0x01 (.reg .a) ∧
    otherParameters.arm 0x0024 = .unknownOpcode 0x04 (.reg .b) (.reg .a) := by
  decide

/-- 20_memory.md R34 and 00_scope.md R5: the two byte orders, and a file with half a word left over. -/
theorem test_image_file :
    wordsOfImageFile [0x12, 0x34, 0x56, 0x78] = some [0x1234, 0x5678] ∧
    wordsInOrder .littleEndian [0x12, 0x34, 0x56, 0x78] = some [0x3412, 0x7856] ∧
    wordsOfImageFile [0x12] = none := by
  decide

/-! ## One step -/

/-- The next state of a step, if it has one. -/
def after (s : State) : Option State :=
  match step s with
  | .next t => some t
  | .fault _ | .refused _ => none

/-- Memory from (address, word) pairs. -/
def memOf (cells : List (Word × Word)) : Memory := cells.foldl (fun m c => m.write c.1 c.2) []

/-- Reset, with pc, sp and the memory given. -/
def at' (pc sp : Word) (cells : List (Word × Word)) : State :=
  { State.reset with pc := pc, sp := sp, memory := memOf cells }

/-- The state `s` with register A. -/
def withA (v : Word) (s : State) : State := s.writeReg .a v

/-- Does a step lead to a state with these pc and sp, still running, with these words of memory and A? -/
def leadsTo (s : State) (pc sp a : Word) (cells : List (Word × Word)) : Bool :=
  match after s with
  | none => false
  | some t => t.pc == pc && t.sp == sp && t.readReg .a == a && t.run == .running
      && cells.all (fun c => t.readMem c.1 == c.2)

/-- Does a step halt with this cause and code, at this pc and sp? -/
def haltsWith (s : State) (cause : HaltCause) (code : BitVec 5) (pc sp : Word) : Bool :=
  match after s with
  | none => false
  | some t => t.pc == pc && t.sp == sp && t.run == .halted && t.haltCause == cause && t.haltCode == code

theorem test_withFetchWord_runs_it :
    (after (State.reset.withFetchWord 16 0x8c61)).map (fun t => (t.regs.x, t.pc)) = some (2, 1) ∧
    (after (State.reset.withFetchWord 16 0x7d00)).map (fun t => (t.haltCode, t.pc)) = some (8, 2) := by
  decide

/-- The machine under other parameters: `0x8810` is IFC A, 1 there, which A = 1 makes skip. -/
theorem test_step_with_other_numbering :
    (match stepWith otherParameters { State.reset with regs := ⟨1, 0, 0, 0, 0, 0, 0, 0⟩, memory := [(0, 0x8810)] } with
      | .next t => t.pc == 2
      | .fault _ | .refused _ => false) = true := by
  decide

theorem test_no_step_when_halted : after { State.reset with run := .halted } = none := by decide

/-- Table V2, Read of each kind of location (role, code, value, pc after, sp after). -/
theorem test_resolver_table :
    ([(.a, 0x07, 0xfff0, 0x0101, 0x8000), (.b, 0x08, 0x0000, 0x0101, 0x8000), (.a, 0x17, 0x0010, 0x0102, 0x8000),
      (.a, 0x18, 0x0000, 0x0101, 0x8001), (.b, 0x18, 0x0000, 0x0101, 0x7fff), (.b, 0x1a, 0x8020, 0x0102, 0x8000),
      (.a, 0x1b, 0x8000, 0x0101, 0x8000), (.b, 0x1c, 0x0101, 0x0101, 0x8000), (.a, 0x1d, 0x00ee, 0x0101, 0x8000),
      (.a, 0x1e, 0x0000, 0x0102, 0x8000), (.b, 0x1f, 0x0020, 0x0102, 0x8000), (.a, 0x20, 0xffff, 0x0101, 0x8000),
      (.a, 0x3f, 0x001e, 0x0101, 0x8000)] : List (Role × BitVec 6 × Word × Word × Word)).all
      (fun r =>
        let s : State := { at' 0x0101 0x8000 [(0x0101, 0x0020)] with
          ex := 0x00ee, regs := ⟨0x1000, 0x2000, 0x3000, 0x4000, 0x5000, 0x6000, 0x7000, 0xfff0⟩ }
        let q := resolve r.1 (Operand.ofCode r.2.1) s
        readLoc q.2 q.1 == r.2.2.1 && q.2.pc == r.2.2.2.1 && q.2.sp == r.2.2.2.2) = true := by
  decide

/-- S5: operand a takes the first extra word. -/
theorem test_set_takes_extra_words_in_order :
    leadsTo (at' 0 0 [(0, 0x7fc1), (1, 0x1234), (2, 0x2000)]) 3 0 0 [(0x2000, 0x1234), (0x1234, 0)] = true := by
  decide

/-- V3: `SET 5, POP` halts, the pop stays applied, nothing is stored. -/
theorem test_set_literal_halts :
    haltsWith (at' 0 0x8000 [(0, 0x63e1), (1, 0x0005)]) .literalWrite 0 2 0x8001 = true := by
  decide

/-- S2: `ADD A, 1` wraps and leaves ex alone. -/
theorem test_add_wraps :
    (after { withA 0xffff (at' 0 0 [(0, 0x8802)]) with ex := 0x5555 }).map
      (fun t => (t.regs.a, t.ex, t.pc, t.run)) = some (0, 0x5555, 1, .running) := by
  decide

/-- V4: `ADD [SP], POP`. -/
theorem test_add_sp_pop :
    leadsTo (at' 0 0x8000 [(0, 0x6322), (0x8000, 3), (0x8001, 4)]) 1 0x8001 0 [(0x8001, 7), (0x8000, 3)] = true := by
  decide

/-- S2: `SUB A, 1` wraps. -/
theorem test_sub_wraps : leadsTo (at' 0 0 [(0, 0x8803)]) 1 0 0xffff [] = true := by decide

/-- V5: `SUB [0x4000], 0x100` and `SUB PC, 1`. -/
theorem test_sub_memory_and_pc :
    leadsTo (at' 0 0 [(0, 0x7fc3), (1, 0x0100), (2, 0x4000), (0x4000, 0x0050)]) 3 0 0 [(0x4000, 0xff50)] = true ∧
    leadsTo (at' 0x0010 0 [(0x0010, 0x8b83)]) 0x0010 0 0 [] = true := by
  decide

/-- V7: `JSR [A]` whose target word the push overwrites; and JSR at 0xffff, overwriting itself. -/
theorem test_jsr_push_before_read :
    leadsTo (withA 0x7fff (at' 0x0010 0x8000 [(0x0010, 0x2020), (0x7fff, 0x0200)])) 0x0011 0x7fff 0x7fff
      [(0x7fff, 0x0011)] = true ∧
    leadsTo (withA 0x0100 (at' 0xffff 0 [(0xffff, 0x0020)])) 0x0100 0xffff 0x0100 [(0xffff, 0)] = true := by
  decide

/-- V7: `JSR POP`, `JSR SP`. -/
theorem test_jsr_stack_operands :
    leadsTo (at' 0x0010 0x8000 [(0x0010, 0x6020), (0x8000, 0x0200)]) 0x0011 0x8000 0 [(0x8000, 0x0011)] = true ∧
    leadsTo (at' 0x0010 0x8000 [(0x0010, 0x6c20)]) 0x7fff 0x7fff 0 [(0x7fff, 0x0011)] = true := by
  decide

/-- The words of V6, `IFx A, B` with a three-word instruction behind it: vb, va and the pc after, by the outcome
table of 44_conditional_skip.md section 3 (executed: 1, skipped: 4). -/
def condGoes (word vb va pc : Word) : Bool :=
  match after ((withA vb (at' 0 0 [(0, word), (1, 0x7fc1)])).writeReg .b va) with
  | none => false
  | some t => t.pc == pc && t.run == .running

theorem test_ifb :
    condGoes 0x0410 0x0003 0x0001 1 = true ∧ condGoes 0x0410 0x0001 0x0002 4 = true := by
  decide

theorem test_ifc :
    condGoes 0x0411 0x0001 0x0002 1 = true ∧ condGoes 0x0411 0x8000 0x8000 4 = true := by
  decide

theorem test_ife :
    condGoes 0x0412 0xffff 0xffff 1 = true ∧ condGoes 0x0412 0x0001 0x0002 4 = true := by
  decide

theorem test_ifn :
    condGoes 0x0413 0x0001 0x0002 1 = true ∧ condGoes 0x0413 0x0001 0x0001 4 = true := by
  decide

theorem test_ifg :
    condGoes 0x0414 0x8000 0x7fff 1 = true ∧ condGoes 0x0414 0x0001 0xffff 4 = true := by
  decide

theorem test_ifa :
    condGoes 0x0415 0x0001 0xffff 1 = true ∧ condGoes 0x0415 0x8000 0x7fff 4 = true := by
  decide

theorem test_ifl :
    condGoes 0x0416 0x0001 0xffff 1 = true ∧ condGoes 0x0416 0x8000 0x7fff 4 = true := by
  decide

theorem test_ifu :
    condGoes 0x0417 0x8000 0x7fff 1 = true ∧ condGoes 0x0417 0x0001 0xffff 4 = true := by
  decide

/-- V6: `IFE A, 1` at 0xffff wraps; a three-word IFE skips a three-word SET; a literal operand b is legal. -/
theorem test_ife_engine :
    leadsTo (at' 0xffff 0 [(0, 0x7fc1), (0xffff, 0x8812)]) 3 0 0 [] = true ∧
    leadsTo (at' 0 0 [(0, 0x7fd2), (1, 5), (2, 0x3000), (3, 0x7fc1)]) 6 0 0 [] = true ∧
    leadsTo (at' 0 0 [(0, 0x9bf2), (1, 5), (2, 0x8c61)]) 2 0 0 [] = true := by
  decide

/-- V4: `IFN A, POP` pops though it only compares; `IFG PUSH, 0` pushes nothing but moves sp. -/
theorem test_conditionals_move_sp :
    leadsTo (at' 0 0x8000 [(0, 0x6013), (1, 0x8c61)]) 2 0x8001 0 [] = true ∧
    leadsTo (at' 0 0x8000 [(0, 0x8714), (0x7fff, 1)]) 1 0x7fff 0 [(0x7fff, 1)] = true := by
  decide

/-- V8, base opcodes: the operands are resolved before the halt. -/
theorem test_unknown_opcode_rows :
    haltsWith (at' 0 0 [(0, 0x6304)]) .unknownOpcode 0x04 1 0 = true ∧
    haltsWith (at' 0 0 [(0, 0x7fe4), (1, 1), (2, 2)]) .unknownOpcode 0x04 3 0 = true ∧
    haltsWith (at' 0 0 [(0, 0xffff)]) .unknownOpcode 0x1f 2 0 = true := by
  decide

/-- 45_unimplemented.md: all 20 unknown base opcodes `0x04..0x0f`, `0x18..0x1f`, as `UNKNOWN POP` words. -/
theorem test_unknown_opcodes_all :
    ([0x04, 0x05, 0x06, 0x07, 0x08, 0x09, 0x0a, 0x0b, 0x0c, 0x0d, 0x0e, 0x0f, 0x18, 0x19, 0x1a, 0x1b, 0x1c, 0x1d,
      0x1e, 0x1f] : List (BitVec 5)).all
      (fun o => haltsWith (at' 0 7 [(0, 0x6000 + o.setWidth 16)]) .unknownOpcode o 1 8) = true := by
  decide

/-- V8, special opcodes: no operand b, so no push and no second extra word. -/
theorem test_unknown_special_rows :
    haltsWith (at' 5 0 []) .unknownSpecialOpcode 0 6 0 = true ∧
    haltsWith (at' 0 0 [(0, 0x7d00), (1, 0x1234)]) .unknownSpecialOpcode 0x08 2 0 = true ∧
    haltsWith (at' 0 0x8000 [(0, 0x0300)]) .unknownSpecialOpcode 0x18 1 0x8000 = true ∧
    haltsWith (at' 0 0 [(0, 0x03e0), (1, 0x1234)]) .unknownSpecialOpcode 0x1f 1 0 = true := by
  decide

/-- 45_unimplemented.md: all 31 unknown special opcodes, every one but 0x01, with operand a POP. -/
theorem test_unknown_specials_all :
    (List.range 32).all
      (fun k => k == 1 || haltsWith (at' 0 7 [(0, BitVec.ofNat 16 (0x6000 + 32 * k))]) .unknownSpecialOpcode
        (BitVec.ofNat 5 k) 1 8) = true := by
  decide

/-- V9: a three-word SET across the top of memory. -/
theorem test_pc_wraps :
    leadsTo (at' 0xfffe 0 [(0, 0x2000), (0xfffe, 0x7fc1), (0xffff, 0x1234)]) 1 0 0 [(0x2000, 0x1234)] = true := by
  decide
/-! ## Witnesses: for each obligation with hypotheses, states and operands that meet all of them

A witness is a state, what its hypotheses ask of it, and the step. -/

/-- Reset with one instruction word (and more words) at 0, pc 0, sp 0x8000. -/
def one (ws : List Word) : State := { at' 0 0x8000 [] with memory := Memory.writeWords [] 0 ws }

theorem witness_LaunchStateIsResetStateWithImage :
    ([] : List Word).length ≤ 65536 ∧ (List.replicate 65536 (1 : Word)).length ≤ 65536 :=
  ⟨Nat.zero_le _, Nat.le_of_eq List.length_replicate⟩

theorem witness_LongImageIsRejectedAndResetForgets :
    65536 < (List.replicate 65537 (0 : Word)).length :=
  Nat.lt_of_lt_of_eq (Nat.lt_succ_self _) List.length_replicate.symm

theorem witness_FirstStepRunsWordZero : ∃ s, State.launch [0x8c61] = some s := ⟨_, rfl⟩

theorem witness_LaunchMeetsInvariant :
    (∃ s, State.launch [0, 0xbeef] = some s) ∧ ∃ s, State.launchWith otherParameters [0, 0xbeef] = some s :=
  ⟨⟨_, rfl⟩, _, if_pos (by decide)⟩

theorem witness_StepKeepsInvariant :
    (one [0x7fc1, 0x1234, 0x2000]).Inv ∧ ∃ t, step (one [0x7fc1, 0x1234, 0x2000]) = .next t :=
  ⟨by unfold State.Inv; decide, _, rfl⟩

theorem witness_CanonicalMemoryIsUnique :
    Memory.wf [(0, 1), (65535, 2)] = true ∧ ∀ a : Word, Memory.read [(0, 1), (65535, 2)] a
      = Memory.read (Memory.write (Memory.write [] 0xffff 2) 0 1) a :=
  ⟨by decide, fun _ => rfl⟩

/-- An even file for each existence clause; a file that is read, with its first and last word, for the others. -/
theorem witness_ImageFileIsBigEndian :
    ([] : List Byte).length % 2 = 0 ∧ ([0x12, 0x34] : List Byte).length % 2 = 0 ∧
    wordsOfImageFile [0x12, 0x34, 0x56, 0x78] = some [0x1234, 0x5678] ∧
    wordsInOrder .littleEndian [0x12, 0x34, 0x56, 0x78] = some [0x3412, 0x7856] ∧ 0 < 2 ∧ 1 < 2 := by decide

/-- Both ends of the range of codes that take a word, and the codes beside it. -/
theorem witness_NeedsWordIsTheResolversClassification :
    needsWord 0x0f = false ∧ needsWord 0x10 = true ∧ needsWord 0x17 = true ∧ needsWord 0x18 = false ∧
    needsWord 0x1a = true ∧ needsWord 0x1e = true ∧ needsWord 0x1f = true ∧ needsWord 0x3f = false := by decide

theorem witness_DecodeOfEncodeIsTheInstruction :
    (Instr.set .memNext .next).wellFormed = true ∧
    ([0x1234, 0x2000] : List Word).length + 1 = len (encode (.set .memNext .next)) ∧
    (Instr.jsr (.inline 31)).wellFormed = true ∧ ([] : List Word).length + 1 = len (encode (.jsr (.inline 31))) := by
  decide

theorem witness_OpcodeMapDecodes :
    (0x01, Instr.set) ∈ basicRows ++ unknownBasicRows ∧ opcode 0xfc01 = 0x01 ∧
    (0x1f, Instr.unknownOpcode1F) ∈ basicRows ++ unknownBasicRows ∧ opcode 0xffff = 0x1f ∧
    (0x01, Instr.jsr) ∈ (0x01, Instr.jsr) :: unknownSpecialRows ∧ opcode 0x0020 = 0 ∧ spc 0x0020 = 0x01 ∧
    (0x1f, Instr.unknownSpecial1F) ∈ (0x01, Instr.jsr) :: unknownSpecialRows ∧ opcode 0x03e0 = 0 ∧
    spc 0x03e0 = 0x1f := by
  refine ⟨?_, by decide, ?_, by decide, ?_, by decide, by decide, ?_, by decide, by decide⟩ <;>
    simp [basicRows, unknownBasicRows, unknownSpecialRows]

/-- The clauses over every numbering: an implemented, an unknown base, JSR's and an unknown special number. -/
theorem witness_OpcodeMapDecodes_every_numbering :
    otherParameters.valid = true ∧ ((0x11, Instr.ifb) ∈ otherParameters.basicRows ∧ opcode 0x8811 = 0x11) ∧
    (opcode 0xffff ≠ 0 ∧ opcode 0xffff ∉ otherParameters.implementedBase) ∧
    (opcode 0x03e0 = 0 ∧ spc 0x03e0 = otherParameters.spcJsr) ∧
    (opcode 0x0020 = 0 ∧ spc 0x0020 ≠ otherParameters.spcJsr) := by
  refine ⟨by decide, ⟨?_, by decide⟩, by decide, by decide, by decide⟩
  simp [Parameters.basicRows, otherParameters]

theorem witness_PcExWordAndInlineCodesResolve : (0 < 31 ∧ BitVec.ofNat 6 (0x21 + 0) = 0x21) ∧
    (30 < 31 ∧ BitVec.ofNat 6 (0x21 + 30) = 0x3f) := by decide

theorem witness_writeInstrs : Instr.set ∈ writeInstrs ∧ Instr.add ∈ writeInstrs ∧ Instr.sub ∈ writeInstrs := by
  simp [writeInstrs]

theorem witness_LiteralDestinationHalts :
    Instr.sub ∈ writeInstrs ∧ (0x10 ∈ literalCodesB ∧ 0x17 ∈ literalCodesB ∧ 0x1a ∈ literalCodesB ∧
      0x1f ∈ literalCodesB) :=
  ⟨witness_writeInstrs.2.2, by decide⟩

theorem witness_OtherDestinationsDoNotHalt :
    Instr.add ∈ writeInstrs ∧ (0x00 ∉ literalCodesB ∧ 0x0f ∉ literalCodesB ∧ 0x18 ∉ literalCodesB ∧
      0x19 ∉ literalCodesB ∧ 0x1b ∉ literalCodesB ∧ 0x1e ∉ literalCodesB) :=
  ⟨witness_writeInstrs.2.1, by decide⟩

theorem witness_StepExistsExactlyWhenRunning :
    State.reset.run = .running ∧ ({ State.reset with run := .halted } : State).run = .halted := ⟨rfl, rfl⟩

theorem witness_StepRunsTheFetchedInstruction : (one [0x8c61]).run = .running := rfl

theorem witness_PcAtDispatchIsNextInstruction : opcode 0x7fc1 ≠ 0 ∧ opcode 0x7fe0 = 0 := by decide

theorem witness_StepRefinesTheSpecPseudocode : (one [0x6322]).run = .running := rfl

/-- One word for each of the three conditions and one for none; and a halted machine; and an image that fits. -/
theorem witness_HaltsExactlyOnTheThreeConditions :
    ([0x0024, 0x0000, 0x03e1, 0x0022] : List Word).all (fun w => decide ((one [w]).run = .running)
      && (after (one [w])).isSome) = true ∧
    ({ State.reset with run := .halted } : State).run = .halted ∧ ([0] : List Word).length ≤ 65536 := by
  decide

theorem witness_HaltRecordSaysWhy : (∃ t, step (one [0x0024]) = .next t) ∧ (∃ t, step (one [0x0022]) = .next t) ∧
    (∃ t, stepWith otherParameters (one [0x0020]) = .next t) ∧ ∃ t, stepWith otherParameters (one [0x0022]) = .next t :=
  ⟨⟨_, rfl⟩, ⟨_, rfl⟩, ⟨_, rfl⟩, _, rfl⟩

theorem witness_HaltUndoesNothing : ∃ t, step (one [0x63e1, 5]) = .next t ∧ t.run = .halted := ⟨_, rfl, rfl⟩

theorem witness_HaltRecordCannotBeRead : ∃ t, step (one [0x0022]) = .next t := ⟨_, rfl⟩

/-- A word that is no jump, one that skips, and one that does not. -/
theorem witness_PcMovesToNextInstructionUnlessJump :
    (([0x7fc1, 0x8812, 0x8412] : List Word).all (fun w => (after (one [w])).isSome)) = true ∧
    (decodeWord 0x7fc1 = .set .memNext .next ∧ decodeWord 0x8812 = .ife (.reg .a) (.inline 2) ∧
      decodeWord 0x8412 = .ife (.reg .a) (.inline 1)) ∧
    (∀ a, Instr.set .memNext .next ≠ .jsr a) ∧ ¬ (Instr.set .memNext .next).writesThrough .pc ∧
    (∀ a, Instr.ife (.reg .a) (.inline 2) ≠ .jsr a) ∧ ¬ (Instr.ife (.reg .a) (.inline 2)).writesThrough .pc := by
  refine ⟨by decide, by decide, ?_, ?_, ?_, ?_⟩ <;> simp [Instr.writesThrough]

/-- A store to the word behind the instruction, with the next fetch there; JSR SP, which jumps to the word it
pushes. -/
theorem witness_StoreIsSeenByNextFetch :
    (one [0x7fc1, 0x8c61, 3]).run = .running ∧ (Instr.set, fun _ va => va) ∈ writeOps ∧
    decodeWord ((one [0x7fc1, 0x8c61, 3]).readMem 0) = .set .memNext .next ∧
    (resolveBoth .memNext .next { one [0x7fc1, 0x8c61, 3] with pc := 1 }).locB = .mem 3 ∧
    (after (one [0x7fc1, 0x8c61, 3])).map (fun t => t.pc) = some 3 ∧
    decodeWord ((one [0x6c20]).readMem 0) = .jsr .sp ∧ (0x7fff : Word) = (one [0x6c20]).sp + Operand.sp.spMove .a - 1 ∧
    (after (one [0x6c20])).map (fun t => t.pc) = some 0x7fff :=
  ⟨rfl, by simp [writeOps], by decide, by decide, by decide, by decide, by decide, by decide⟩

theorem witness_ZeroWordEndsTheRun : State.reset.run = .running ∧ State.reset.readMem 0 = 0 := ⟨rfl, rfl⟩

theorem witness_RegisterWrittenOnlyThroughItsCode :
    (∃ t, exec (.add (.reg .b) (.reg .a)) (one []) = .next t) ∧
    ¬ (Instr.add (.reg .b) (.reg .a)).writesThrough (.reg .a) :=
  ⟨⟨_, rfl⟩, by simp [Instr.writesThrough]⟩

theorem witness_ExWrittenOnlyAsDestination :
    (∃ t, exec (.add (.reg .b) .ex) (one []) = .next t) ∧ ¬ (Instr.add (.reg .b) .ex).writesThrough .ex :=
  ⟨⟨_, rfl⟩, by simp [Instr.writesThrough]⟩

theorem witness_SpMovedOnlyByStackOperandsJsrAndSp :
    (∃ t, exec (.jsr .stack) (one []) = .next t) ∧ ¬ (Instr.jsr .stack).writesThrough .sp ∧
    (∃ t, exec (.ife .stack .stack) (one []) = .next t) ∧ ¬ (Instr.ife .stack .stack).writesThrough .sp :=
  ⟨⟨_, rfl⟩, by simp [Instr.writesThrough], ⟨_, rfl⟩, by simp [Instr.writesThrough]⟩

/-- A store, a write that stores nothing, JSR, and an instruction that is neither. -/
theorem witness_MemoryWrittenOnlyAtTheStoreAddress :
    (∃ t, exec (.set .memSp (.reg .a)) (one []) = .next t) ∧
    (resolveBoth .memSp (.reg .a) (one [])).locB = .mem 0x8000 ∧
    (∃ t, exec (.set .sp (.reg .a)) (one []) = .next t) ∧
    (∀ addr, (resolveBoth .sp (.reg .a) (one [])).locB ≠ .mem addr) ∧
    (∃ t, exec (.jsr (.reg .a)) (one []) = .next t) ∧ (0 : Word) ≠ (one []).sp + (Operand.reg .a).spMove .a - 1 ∧
    (∃ t, exec (.ifb .stack .stack) (one []) = .next t) ∧ (∀ b, ¬ (Instr.ifb .stack .stack).writesThrough b) ∧
    ∀ a, Instr.ifb .stack .stack ≠ .jsr a :=
  ⟨⟨_, rfl⟩, rfl, ⟨_, rfl⟩, fun _ h => (by cases h), ⟨_, rfl⟩, by decide, ⟨_, rfl⟩,
    fun _ => by simp [Instr.writesThrough], fun _ h => (by cases h)⟩

theorem witness_SetCornerCases : (one [0x6301]).memory.wf = true := by decide

/-- A register, ex, pc and sp as the destination's opposites; a store; a form that stores nothing; no literal. -/
theorem witness_WriteInstructionsFrame :
    Instr.sub ∈ writeInstrs ∧ (∃ t, exec (.sub .memSp .stack) (one []) = .next t) ∧
    Operand.memSp ≠ .reg .a ∧ Operand.memSp ≠ .ex ∧ Operand.memSp ≠ .pc ∧ Operand.memSp ≠ .sp ∧
    (resolveBoth .memSp .stack (one [])).locB = .mem 0x8001 ∧ Operand.memSp.isLiteral = false ∧
    (∃ t, exec (.sub (.reg .j) .stack) (one []) = .next t) ∧
    (∀ addr, (resolveBoth (.reg .j) .stack (one [])).locB ≠ .mem addr) :=
  ⟨witness_writeInstrs.2.2, ⟨_, rfl⟩, by decide, by decide, by decide, by decide, rfl, rfl, ⟨_, rfl⟩,
    fun _ h => (by cases h)⟩

theorem witness_SkipConditionalEffect :
    (Instr.ifb, predIfb) ∈ conditionals ∧ (Instr.ifu, predIfu) ∈ conditionals := by
  simp [conditionals]

/-- `IFE A, 1` with A = 0 skips a word that would halt. -/
theorem witness_SkipsExactlyOneInstruction :
    (Instr.ife, predIfe) ∈ conditionals ∧ (one [0x8812, 0x0024]).run = .running ∧
    predIfe (resolveBoth (.reg .a) (.inline 2) (one [0x8812, 0x0024])).valueB
      (resolveBoth (.reg .a) (.inline 2) (one [0x8812, 0x0024])).valueA = false :=
  ⟨by simp [conditionals], rfl, by decide⟩

theorem witness_EqualityAndUnsignedPredicates :
    predIfe 0xffff 0xffff = true ∧ predIfe 0x8000 0x7fff = false := by decide

theorem witness_UnknownOpcodesHalt :
    (0x04, Instr.unknownOpcode04) ∈ unknownBasicRows ∧ (0x1f, Instr.unknownOpcode1F) ∈ unknownBasicRows := by
  simp [unknownBasicRows]

theorem witness_UnknownSpecialOpcodesHalt :
    (0x00, Instr.unknownSpecial00) ∈ unknownSpecialRows ∧ (0x1f, Instr.unknownSpecial1F) ∈ unknownSpecialRows := by
  simp [unknownSpecialRows]

end Sys2Proof.Tests
end

section
/-! PROOFS. The instruction word (30_encoding.md sections 1 and 2): its fields as numbers, the operands of the
decoded instruction, which codes take an extra word, and the length. -/

namespace Sys2Proof
open Machine

/-! ## The fields as numbers (R51 to R54) -/

@[simp] theorem opcode_toNat (w : Word) : (opcode w).toNat = w.toNat % 32 := by
  simp [opcode]

@[simp] theorem opb_toNat (w : Word) : (opb w).toNat = w.toNat / 32 % 32 := by
  simp [opb, Nat.shiftRight_eq_div_pow]

@[simp] theorem spc_toNat (w : Word) : (spc w).toNat = w.toNat / 32 % 32 := opb_toNat w

@[simp] theorem opa_toNat (w : Word) : (opa w).toNat = w.toNat / 1024 := by
  have hlt : w.toNat / 1024 < 64 := by omega
  simpa [opa, Nat.shiftRight_eq_div_pow] using hlt

/-! ## The operands of the decoded instruction

The operand functions are pushed through the row table first and unfolded after that: every row then names the
same operand, and the table collapses. -/

/-- Every row of an unknown base opcode keeps both operands (45_unimplemented.md R160). -/
theorem Instr.operands_ofUnknownOpcode (o : BitVec 5) (b a : Operand) :
    (Instr.ofUnknownOpcode o b a).operandA = a ∧ (Instr.ofUnknownOpcode o b a).operandB = some b := by
  constructor
  · simp only [Instr.ofUnknownOpcode, apply_ite Instr.operandA]
    simp only [Instr.operandA, ite_self]
  · simp only [Instr.ofUnknownOpcode, apply_ite Instr.operandB]
    simp only [Instr.operandB, ite_self]

/-- Every row of an unknown special opcode keeps operand a and has no operand b (45_unimplemented.md R161). -/
theorem Instr.operands_ofUnknownSpecial (k : BitVec 5) (a : Operand) :
    (Instr.ofUnknownSpecial k a).operandA = a ∧ (Instr.ofUnknownSpecial k a).operandB = none := by
  constructor
  · simp only [Instr.ofUnknownSpecial, apply_ite Instr.operandA]
    simp only [Instr.operandA, ite_self]
  · simp only [Instr.ofUnknownSpecial, apply_ite Instr.operandB]
    simp only [Instr.operandB, ite_self]

theorem operands_writeOps {q : (Operand → Operand → Instr) × (Word → Word → Word)} (hq : q ∈ writeOps)
    (b a : Operand) : (q.1 b a).operandA = a ∧ (q.1 b a).operandB = some b := by
  simp only [writeOps, List.mem_cons, List.not_mem_nil, or_false] at hq
  rcases hq with rfl | rfl | rfl <;> exact ⟨rfl, rfl⟩

theorem operands_conditionals {q : (Operand → Operand → Instr) × (Word → Word → Bool)}
    (hq : q ∈ conditionals) (b a : Operand) :
    (q.1 b a).operandA = a ∧ (q.1 b a).operandB = some b := by
  simp only [conditionals, List.mem_cons, List.not_mem_nil, or_false] at hq
  rcases hq with rfl | rfl | rfl | rfl | rfl | rfl | rfl | rfl <;> exact ⟨rfl, rfl⟩

theorem decodeWord_eq_arm_instr (w : Word) : decodeWord w = (Config.decided.arm w).instr := rfl

/-- The decoded instruction's operands are those its word's codes name; operand b is one only in the basic form
(30_encoding.md R52, R54). -/
theorem operands_decodeWord (w : Word) :
    (decodeWord w).operandA = Operand.ofCode (opa w) ∧
    (decodeWord w).operandB = if opcode w = 0 then none else some (Operand.ofCodeB (opb w)) := by
  rw [decodeWord_eq_arm_instr]
  obtain ⟨h0, -, harm⟩ | ⟨h0, -, harm⟩ | ⟨q, hq, h0, -, harm⟩ | ⟨q, hq, h0, -, -, harm⟩ | ⟨h0, -, harm⟩ :=
    arm_cases Config.decided w
  · rw [harm, if_pos h0]
    exact ⟨rfl, rfl⟩
  · rw [harm, if_pos h0]
    exact Instr.operands_ofUnknownSpecial _ _
  · rw [harm, if_neg h0]
    exact operands_writeOps hq _ _
  · rw [harm, if_neg h0]
    exact operands_conditionals hq _ _
  · rw [harm, if_neg h0]
    exact Instr.operands_ofUnknownOpcode _ _ _

theorem Operand.ofCodeB_ne_inline (c k : BitVec 5) : Operand.ofCodeB c ≠ .inline k := by
  intro h
  have hb := Operand.allowedAsB_ofCodeB c
  rw [h] at hb
  cases hb

/-- Settles O10: the fields are bit slices, and each arm of the dispatch keeps the operands its word names. -/
theorem instructionWordFields : Obligations.InstructionWordFields := by
  intro w
  obtain ⟨ha, hb⟩ := operands_decodeWord w
  exact ⟨opcode_toNat w, opb_toNat w, spc_toNat w, opa_toNat w, ha, hb, Operand.ofCodeB_ne_inline (opb w)⟩

/-! ## The codes that take an extra word (R56) -/

theorem needsWord_iff (c : BitVec 6) :
    needsWord c = true ↔ (0x10 ≤ c.toNat ∧ c.toNat ≤ 0x17) ∨ c = 0x1a ∨ c = 0x1e ∨ c = 0x1f := by
  simp [needsWord, or_assoc]

/-- Resolving a code consumes a word of the instruction stream exactly when the code needs one. -/
theorem resolve_ofCode_pc (role : Role) (c : BitVec 6) (s : State) :
    (resolve role (Operand.ofCode c) s).2.pc = if needsWord c then s.pc + 1 else s.pc := by
  rw [resolve_state, Operand.pcMove, takesWord_ofCode]
  cases needsWord c <;> simp

/-- Settles O11, from the code table and the resolver's move of pc. -/
theorem needsWordIsTheResolversClassification : Obligations.NeedsWordIsTheResolversClassification :=
  fun c => ⟨needsWord_iff c, fun role s => resolve_ofCode_pc role c s⟩

/-! ## The length (R57) -/

/-- `Len` with the special opcode as the number 0 and operand b's code as six bits. -/
theorem len_eq (w : Word) :
    len w = 1 + (if needsWord (opa w) then 1 else 0)
      + (if opcode w ≠ 0 ∧ needsWord ((opb w).setWidth 6) then 1 else 0) := rfl

theorem one_le_len (w : Word) : 1 ≤ len w := by
  rw [len_eq]; omega

theorem len_le_three (w : Word) : len w ≤ 3 := by
  rw [len_eq]; split <;> split <;> omega

/-- The special form has no operand b, so at most one extra word. -/
theorem len_le_two_of_special {w : Word} (h : opcode w = 0) : len w ≤ 2 := by
  have hb : ¬ (opcode w ≠ 0 ∧ needsWord ((opb w).setWidth 6)) := fun hc => hc.1 h
  rw [len_eq, if_neg hb]; split <;> omega

/-- Settles O12, from the formula of `Len` and its bounds in the two forms. -/
theorem lengthOfInstructionWord : Obligations.LengthOfInstructionWord :=
  fun w => ⟨len_eq w, one_le_len w, len_le_three w, len_le_two_of_special⟩

end Sys2Proof
end

section
/-! PROOFS. The Accessor Layer (40_operands.md section 4): what `Read` answers for each kind of location, and the
one cell that `Write` gives the value. -/

namespace Sys2Proof
open Machine

/-! ## A written memory word (20_memory.md R31) -/

/-- A memory word reads back what was written to it; every other address is untouched. Writing the unlisted word
erases a cell, writing any other word lists one. -/
@[simp] theorem Machine.Memory.read_write (m : Memory) (a b v : Word) :
    (m.write a v).read b = if b = a then v else m.read b := by
  unfold Memory.write Memory.read
  split
  · next hv => simp only [lookupCell_eraseCell, BitVec.toNat_inj, hv]
  · simp only [lookupCell_insertCell, BitVec.toNat_inj]

/-! ## `Read` (R90) -/

@[simp] theorem readLoc_reg (s : State) (r : Reg) : readLoc s (.reg r) = s.readReg r := rfl
@[simp] theorem readLoc_pc (s : State) : readLoc s .pc = s.pc := rfl
@[simp] theorem readLoc_sp (s : State) : readLoc s .sp = s.sp := rfl
@[simp] theorem readLoc_ex (s : State) : readLoc s .ex = s.ex := rfl
@[simp] theorem readLoc_mem (s : State) (a : Word) : readLoc s (.mem a) = s.memory.read a := rfl
@[simp] theorem readLoc_lit (s : State) (v : Word) : readLoc s (.lit v) = v := rfl

/-! ## `Write` (R91) -/

/-- The state after a write differs from `s` in the register file only, and there in the one register. -/
theorem writeLoc_reg_changes_only (s : State) (r : Reg) (v : Word) :
    ∃ g, writeLoc s (.reg r) v = { s with regs := g } ∧
      ∀ q, g.get q = if q = r then v else s.regs.get q :=
  ⟨s.regs.set r v, rfl, fun q => Regs.get_set s.regs r q v⟩

/-- The state after a write differs from `s` in the memory only, and there at the one address. -/
theorem writeLoc_mem_changes_only (s : State) (a v : Word) :
    ∃ m, writeLoc s (.mem a) v = { s with memory := m } ∧
      ∀ b, m.read b = if b = a then v else s.memory.read b :=
  ⟨s.memory.write a v, rfl, fun b => Memory.read_write s.memory a b v⟩

theorem writeLoc_pc_eq (s : State) (v : Word) : writeLoc s .pc v = { s with pc := v } := rfl
theorem writeLoc_sp_eq (s : State) (v : Word) : writeLoc s .sp v = { s with sp := v } := rfl
theorem writeLoc_ex_eq (s : State) (v : Word) : writeLoc s .ex v = { s with ex := v } := rfl

/-- Settles O24: reads by kind of location, and the one cell a write changes, registers and memory through their
read-after-write laws. -/
theorem accessorLayerReadsAndWritesOneCell : Obligations.AccessorLayerReadsAndWritesOneCell := by
  constructor
  · intro s
    exact ⟨readLoc_reg s, readLoc_pc s, readLoc_sp s, readLoc_ex s, readLoc_mem s, readLoc_lit s⟩
  · intro s v
    exact ⟨fun r => writeLoc_reg_changes_only s r v, writeLoc_pc_eq s v, writeLoc_sp_eq s v,
      writeLoc_ex_eq s v, fun a => writeLoc_mem_changes_only s a v, fun u => writeLoc_lit s u v⟩

end Sys2Proof
end

section
/-! PROOFS. The frame every instruction runs in (41_step.md sections 1 to 3). -/

namespace Sys2Proof
open Machine

/-- Settles O28: in a running machine the step is the model's own law of the fetch (R101, R102). -/
theorem stepRunsTheFetchedInstruction : Obligations.StepRunsTheFetchedInstruction :=
  fun _ hrun => step_of_running hrun

end Sys2Proof
end

section
/-! PROOFS. The register ex under SET, ADD, SUB and every other instruction (43_set_add_sub.md R133). -/

namespace Sys2Proof
open Machine

/-! ## Resolving operands leaves ex alone (40_operands.md R70) -/

@[simp] theorem resolve_ex (role : Role) (o : Operand) (s : State) : (resolve role o s).2.ex = s.ex := by
  rw [resolve_state]

@[simp] theorem resolveBoth_ex (b a : Operand) (s : State) : (resolveBoth b a s).state.ex = s.ex := by
  rw [resolveBoth_state]

theorem resolveBoth_locB_eq_ex_iff (b a : Operand) (s : State) : (resolveBoth b a s).locB = .ex ↔ b = .ex :=
  resolve_isEx .b b (resolve .a a s).2

/-- With `EX` as operand b, the value of operand b at dispatch is ex before the instruction. -/
theorem resolveBoth_ex_valueB (a : Operand) (s : State) : (resolveBoth .ex a s).valueB = s.ex :=
  resolveBoth_ex .ex a s

/-! ## ex after a write through operand b -/

theorem writeResult_ex {f : Word → Word → Word} {b a : Operand} {s t : State}
    (h : writeResult f b a s = .next t) :
    t.ex = if b = .ex then f s.ex (resolveBoth .ex a s).valueA else s.ex := by
  rw [writeResult_next h, writeLoc_ex, resolveBoth_ex]
  by_cases hb : b = .ex
  · rw [if_pos ((resolveBoth_locB_eq_ex_iff b a s).mpr hb), if_pos hb, hb, resolveBoth_ex_valueB]
  · rw [if_neg (mt (resolveBoth_locB_eq_ex_iff b a s).mp hb), if_neg hb]

/-- A write through `EX` always completes, and ex takes the result. -/
theorem writeResult_through_ex (f : Word → Word → Word) (a : Operand) (s : State) :
    ∃ t, writeResult f .ex a s = .next t ∧ t.ex = f s.ex (resolveBoth .ex a s).valueA :=
  ⟨_, rfl, writeResult_ex rfl⟩

/-- By the five shapes of a meaning: each only resolves operands, pushes, sets pc or halts, but for a write
through operand b, which reaches ex from `EX` alone. -/
theorem exec_keeps_ex {i : Instr} {s t : State} (h : exec i s = .next t) (hw : ¬ i.writesThrough .ex) :
    t.ex = s.ex := by
  obtain ⟨a, rfl⟩ | ⟨f, b, a, hi, hexec⟩ | ⟨p, c, b, a, -, -, hexec⟩ | ⟨o, c, b, a, -, -, hexec⟩ |
    ⟨k, c, a, -, -, hexec⟩ := exec_form i
  · rw [execJsr_next h]
    simp
  · rw [hexec] at h
    have hb : b ≠ .ex := fun hb => hw ⟨a, hb ▸ hi⟩
    rw [writeResult_ex h, if_neg hb]
  · rw [hexec] at h
    rw [skipUnless_next h]
    split <;> simp
  · rw [hexec] at h
    simp [haltUnknownOpcode_next h]
  · rw [hexec] at h
    simp [haltUnknownSpecial_next h]

/-- Settles O40: no instruction reaches ex but a write through `EX`, and that stores the result there. -/
theorem exWrittenOnlyAsDestination : Obligations.ExWrittenOnlyAsDestination :=
  ⟨fun _ _ _ h hw => exec_keeps_ex h hw, fun a s =>
    ⟨writeResult_through_ex (fun _ va => va) a s, writeResult_through_ex (fun vb va => vb + va) a s,
      writeResult_through_ex (fun vb va => vb - va) a s⟩⟩

end Sys2Proof
end

section
/-! PROOFS. The conditional-skip engine (44_conditional_skip.md section 1): the one next state of a
skip-conditional, and what the step after a skip runs. -/

namespace Sys2Proof
open Machine

/-- All eight skip-conditionals are the engine, each with its own predicate. -/
theorem exec_conditionals {q : (Operand → Operand → Instr) × (Word → Word → Bool)} (hq : q ∈ conditionals)
    (b a : Operand) (s : State) : exec (q.1 b a) s = skipUnless q.2 b a s := by
  simp only [conditionals, List.mem_cons, List.not_mem_nil, or_false] at hq
  rcases hq with rfl | rfl | rfl | rfl | rfl | rfl | rfl | rfl <;> rfl

/-- With the predicate true, the engine does no more than resolve the operands (R140, R151). -/
theorem skipUnless_of_true {p : Word → Word → Bool} {b a : Operand} {s : State}
    (h : p (resolveBoth b a s).valueB (resolveBoth b a s).valueA = true) :
    skipUnless p b a s = .next
      { s with pc := s.pc + a.pcMove + b.pcMove, sp := s.sp + a.spMove .a + b.spMove .b } := by
  rw [skipUnless, if_pos h, resolveBoth_state]

/-- With the predicate false, pc moves on by the length of the word it then points at, and the move is the only
trace of that word (R140, R150). -/
theorem skipUnless_of_false {p : Word → Word → Bool} {b a : Operand} {s : State}
    (h : p (resolveBoth b a s).valueB (resolveBoth b a s).valueA = false) :
    skipUnless p b a s = .next
      { s with
        sp := s.sp + a.spMove .a + b.spMove .b
        pc := s.pc + a.pcMove + b.pcMove + BitVec.ofNat 16 (len (s.readMem (s.pc + a.pcMove + b.pcMove))) } := by
  rw [skipUnless, if_neg (Bool.eq_false_iff.mp h), resolveBoth_state]
  rfl

/-- Settles O53: each of the eight is the engine, and the engine's next state is read off in both outcomes of the
predicate. -/
theorem skipConditionalEffect : Obligations.SkipConditionalEffect := by
  intro p hp b a s
  rw [exec_conditionals hp]
  cases h : p.2 (resolveBoth b a s).valueB (resolveBoth b a s).valueA with
  | true => exact skipUnless_of_true h
  | false => exact skipUnless_of_false h

/-- Settles O54: the state after a skip is still running, so the next step runs the word at the new pc. -/
theorem skipsExactlyOneInstruction : Obligations.SkipsExactlyOneInstruction := by
  intro p hp b a s hrun hfalse
  have hskip := (exec_conditionals hp b a s).trans (skipUnless_of_false hfalse)
  exact ⟨_, hskip, rfl, rfl, rfl, rfl, rfl, hrun, rfl, rfl, step_of_running hrun⟩

end Sys2Proof
end

section
/-! PROOFS. The opcode map as a table (30_encoding.md section 3), and from it decoding and encoding (30_encoding.md
sections 3 to 5). What the decoder, the encoder and exec make of a row is checked row by row once; every other fact
goes through the rows. -/

namespace Sys2Proof
open Machine

/-! ## The rows -/

/-- The 31 base opcodes of the basic form: the 11 implemented and the 20 unknown ones (R59, R160). -/
abbrev allBasicRows : List (BitVec 5 × (Operand → Operand → Instr)) := basicRows ++ unknownBasicRows

/-- The 32 special opcodes: JSR's and the 31 unknown ones (R60, R161). -/
abbrev allSpecialRows : List (BitVec 5 × (Operand → Instr)) := (0x01, Instr.jsr) :: unknownSpecialRows

/-- Row by row: decoding the row's number, the fields of its instruction, and its operands. -/
theorem basicRow_spec : ∀ p ∈ allBasicRows, ∀ b a,
    (∀ kb ka, decodeFields p.1 kb ka = p.2 (Operand.ofCodeB kb) (Operand.ofCode ka)) ∧
    (p.2 b a).fields = ⟨a.code, b.codeB, p.1⟩ ∧ (p.2 b a).operandA = a ∧ (p.2 b a).operandB = some b := by
  simp only [allBasicRows, basicRows, unknownBasicRows, List.cons_append, List.nil_append, List.forall_mem_cons,
    List.not_mem_nil, false_implies, implies_true, and_true]
  repeat' apply And.intro
  all_goals exact fun _ _ => ⟨fun _ _ => rfl, rfl, rfl, rfl⟩

/-- Row by row: decoding the row's number, the fields of its instruction, and its one operand. -/
theorem specialRow_spec : ∀ p ∈ allSpecialRows, ∀ a,
    (∀ ka, decodeFields 0 p.1 ka = p.2 (Operand.ofCode ka)) ∧
    (p.2 a).fields = ⟨a.code, p.1, Config.opcSpecial⟩ ∧ (p.2 a).operandA = a ∧ (p.2 a).operandB = none := by
  simp only [allSpecialRows, unknownSpecialRows, List.forall_mem_cons, List.not_mem_nil, false_implies,
    implies_true, and_true]
  repeat' apply And.intro
  all_goals exact fun _ => ⟨fun _ => rfl, rfl, rfl, rfl⟩

/-- Every base opcode but the special form's has a row. -/
theorem exists_basicRow {o : BitVec 5} (h : o ≠ 0) : ∃ p ∈ allBasicRows, p.1 = o := by
  have hall : ∀ o : BitVec 5, o ≠ 0 → o ∈ allBasicRows.map Prod.fst := by decide
  exact List.mem_map.mp (hall o h)

/-- Every special opcode has a row. -/
theorem exists_specialRow (k : BitVec 5) : ∃ p ∈ allSpecialRows, p.1 = k := by
  have hall : ∀ k : BitVec 5, k ∈ allSpecialRows.map Prod.fst := by decide
  exact List.mem_map.mp (hall k)

theorem mem_allBasicRows_of_conditionals {q : (Operand → Operand → Instr) × (Word → Word → Bool)}
    (hq : q ∈ conditionals) : ∃ o, (o, q.1) ∈ allBasicRows := by
  simp only [conditionals, List.mem_cons, List.not_mem_nil, or_false] at hq
  rcases hq with rfl | rfl | rfl | rfl | rfl | rfl | rfl | rfl
  · exact ⟨0x10, by simp [basicRows]⟩
  · exact ⟨0x11, by simp [basicRows]⟩
  · exact ⟨0x12, by simp [basicRows]⟩
  · exact ⟨0x13, by simp [basicRows]⟩
  · exact ⟨0x14, by simp [basicRows]⟩
  · exact ⟨0x15, by simp [basicRows]⟩
  · exact ⟨0x16, by simp [basicRows]⟩
  · exact ⟨0x17, by simp [basicRows]⟩

/-- Every instruction is one of the 63 rows with its operands. -/
theorem exists_row (i : Instr) :
    (∃ p ∈ allBasicRows, ∃ b a, i = p.2 b a) ∨ ∃ p ∈ allSpecialRows, ∃ a, i = p.2 a := by
  obtain ⟨a, rfl⟩ | ⟨f, b, a, hi, -⟩ | ⟨p, c, b, a, hrow, rfl, -⟩ | ⟨o, c, b, a, hrow, rfl, -⟩ |
    ⟨k, c, a, hrow, rfl, -⟩ := exec_form i
  · exact .inr ⟨(0x01, .jsr), List.mem_cons_self, a, rfl⟩
  · refine .inl ?_
    rcases hi with rfl | rfl | rfl
    · exact ⟨(0x01, .set), by simp [basicRows], b, a, rfl⟩
    · exact ⟨(0x02, .add), by simp [basicRows], b, a, rfl⟩
    · exact ⟨(0x03, .sub), by simp [basicRows], b, a, rfl⟩
  · obtain ⟨o, ho⟩ := mem_allBasicRows_of_conditionals hrow
    exact .inl ⟨(o, c), ho, b, a, rfl⟩
  · exact .inl ⟨(o, c), List.mem_append_right _ hrow, b, a, rfl⟩
  · exact .inr ⟨(k, c), List.mem_cons_of_mem _ hrow, a, rfl⟩

/-! ## A decoded word is a row -/

theorem decodeWord_basicRow {p : BitVec 5 × (Operand → Operand → Instr)} (hp : p ∈ allBasicRows) {w : Word}
    (hw : opcode w = p.1) : decodeWord w = p.2 (Operand.ofCodeB (opb w)) (Operand.ofCode (opa w)) := by
  rw [decodeWord, hw]
  exact (basicRow_spec p hp .pc .pc).1 _ _

theorem decodeWord_specialRow {p : BitVec 5 × (Operand → Instr)} (hp : p ∈ allSpecialRows) {w : Word}
    (h0 : opcode w = 0) (hw : spc w = p.1) : decodeWord w = p.2 (Operand.ofCode (opa w)) := by
  rw [decodeWord, h0, show opb w = p.1 from hw]
  exact (specialRow_spec p hp .pc).1 _

/-! ## Encoding and decoding agree -/

/-- Settles O15: a word's row gives back the three fields it was decoded from. -/
theorem encodeOfDecodeIsTheWord : Obligations.EncodeOfDecodeIsTheWord := by
  intro w
  rw [encode, Instr.wellFormed]
  by_cases h0 : opcode w = 0
  · obtain ⟨p, hp, hk⟩ := exists_specialRow (spc w)
    obtain ⟨-, hfields, -, hb⟩ := specialRow_spec p hp (Operand.ofCode (opa w))
    rw [decodeWord_specialRow hp h0 hk.symm, hfields, hb, Operand.code_ofCode, hk]
    exact ⟨rfl, (show opcode w = Config.opcSpecial from h0) ▸ packFields_fields w⟩
  · obtain ⟨p, hp, ho⟩ := exists_basicRow h0
    obtain ⟨-, hfields, -, hb⟩ := basicRow_spec p hp (Operand.ofCodeB (opb w)) (Operand.ofCode (opa w))
    rw [decodeWord_basicRow hp ho.symm, hfields, hb, Operand.code_ofCode, Operand.codeB_ofCodeB, ho]
    exact ⟨Operand.allowedAsB_ofCodeB _, packFields_fields w⟩

/-- The encoding of a well-formed instruction decodes to it: operand b fits its five bits. -/
theorem decodeWord_encode {i : Instr} (h : i.wellFormed = true) : decodeWord (encode i) = i := by
  obtain ⟨ho, hb, -, ha⟩ := fields_packFields i.fields
  rw [decodeWord, encode, ho, hb, ha]
  obtain ⟨p, hp, b, a, rfl⟩ | ⟨p, hp, a, rfl⟩ := exists_row i
  · obtain ⟨hdecode, hfields, -, hopb⟩ := basicRow_spec p hp b a
    rw [Instr.wellFormed, hopb] at h
    rw [hfields, hdecode, Operand.ofCode_code, Operand.ofCodeB_codeB h]
  · obtain ⟨hdecode, hfields, -, -⟩ := specialRow_spec p hp a
    rw [hfields, hdecode, Operand.ofCode_code]

/-- Settles O14: the word decodes to its instruction, and its length splits off exactly the extra words. -/
theorem decodeOfEncodeIsTheInstruction : Obligations.DecodeOfEncodeIsTheInstruction := by
  intro i extra rest hwf hlen
  have hextra : len (encode i) - 1 = extra.length := by omega
  have hlong : ¬ (extra ++ rest).length < extra.length := by simp
  simp only [decode, hextra, if_neg hlong, decodeWord_encode hwf, List.take_left, List.drop_left]

/-! ## The map in the decided numbering and in every valid one -/

/-- A valid numbering has eleven distinct numbers, none of them the special form's: the arm of a word that carries
one is that number's instruction. Reversed, the list of numbers says of each that the ones tested before it differ. -/
theorem arm_of_basicRow {c : Parameters} (hc : c.valid = true) {w : Word} :
    ∀ p ∈ c.basicRows, opcode w = p.1 →
      c.arm w = .implemented (p.2 (Operand.ofCodeB (opb w)) (Operand.ofCode (opa w))) := by
  have hdistinct := List.nodup_reverse.mpr (of_decide_eq_true (Bool.and_eq_true_iff.mp hc).1)
  simp only [Parameters.implementedBase, List.reverse_cons, List.reverse_nil, List.nil_append, List.cons_append,
    List.nodup_cons, List.mem_cons, List.not_mem_nil, or_false, not_or] at hdistinct
  simp only [Parameters.basicRows, List.forall_mem_cons, Parameters.arm, Parameters.armOfFields]
  refine ⟨?_, ?_, ?_, ?_, ?_, ?_, ?_, ?_, ?_, ?_, ?_, by simp⟩ <;>
    (intro h; simp only [h, hdistinct, if_true, if_false])

/-- An opcode outside the numbering takes the unknown arm, and the special form its own two (R105). -/
theorem arm_of_not_basicRow (c : Parameters) (w : Word) :
    (opcode w ≠ 0 → opcode w ∉ c.implementedBase →
      c.arm w = .unknownOpcode (opcode w) (Operand.ofCodeB (opb w)) (Operand.ofCode (opa w))) ∧
    (opcode w = 0 → spc w = c.spcJsr → c.arm w = .implemented (.jsr (Operand.ofCode (opa w)))) ∧
    (opcode w = 0 → spc w ≠ c.spcJsr → c.arm w = .unknownSpecial (spc w) (Operand.ofCode (opa w))) := by
  refine ⟨fun h0 hn => ?_, fun h0 hk => ?_, fun h0 hk => ?_⟩
  · simp only [Parameters.implementedBase, List.mem_cons, List.not_mem_nil, or_false, not_or] at hn
    rw [Parameters.arm, Parameters.armOfFields, if_neg (show opcode w ≠ Config.opcSpecial from h0)]
    simp only [hn, if_false]
  · rw [Parameters.arm, Parameters.armOfFields, if_pos h0]
    exact if_pos hk
  · rw [Parameters.arm, Parameters.armOfFields, if_pos h0]
    exact if_neg hk

/-- Settles O16: the decided numbering row by row, and the four kinds of number of any valid one. -/
theorem opcodeMapDecodes : Obligations.OpcodeMapDecodes := by
  refine ⟨by decide, fun p hp w hw => decodeWord_basicRow hp hw,
    fun p hp w h0 hk => decodeWord_specialRow hp h0 hk, fun c hc w => ?_⟩
  exact ⟨arm_of_basicRow hc, arm_of_not_basicRow c w⟩

/-- Settles O17: the decoder, run on the ten words. -/
theorem specExampleWordsDecode : Obligations.SpecExampleWordsDecode := by
  unfold Obligations.SpecExampleWordsDecode
  decide

end Sys2Proof
end

section
/-! PROOFS. Memory as an array of words (20_memory.md section 4), its one canonical form, and the state a run starts
in (70_reset_and_hazards.md sections 1 and 2). -/

namespace Sys2Proof
open Machine

/-- Settles O7: the law of a written memory word; the empty list lists nothing. -/
theorem memoryReadsLastWrittenWord : Obligations.MemoryReadsLastWrittenWord :=
  ⟨Memory.read_write, fun _ => rfl⟩

/-! ## The canonical form is unique -/

theorem wfCellsFrom_cons {lo k : Nat} {v : Word} {rest : List Cell} :
    wfCellsFrom lo ((k, v) :: rest) = true ↔
      lo ≤ k ∧ k < 65536 ∧ v ≠ Config.unlistedWord ∧ wfCellsFrom (k + 1) rest = true := by
  simp [wfCellsFrom, and_assoc]

/-- The first cell of a canonical list is seen by a read of its address, which is below 65536: a list that reads
alike cannot begin above it. -/
theorem lookupCell_head_ne {lo k : Nat} {v : Word} {rest n : List Cell}
    (hm : wfCellsFrom lo ((k, v) :: rest) = true) (hn : wfCellsFrom (k + 1) n = true) :
    lookupCell ((k, v) :: rest) k ≠ lookupCell n k := by
  obtain ⟨-, -, hv, -⟩ := wfCellsFrom_cons.mp hm
  rw [lookupCell_below hn (Nat.lt_succ_self k)]
  simpa [lookupCell] using hv

/-- Two canonical lists that read alike below 65536 are equal: the first cells are the same, and below the next
address both rests list nothing. -/
theorem wfCellsFrom_unique {lo : Nat} {m n : List Cell} (hm : wfCellsFrom lo m = true) (hn : wfCellsFrom lo n = true)
    (h : ∀ a < 65536, lookupCell m a = lookupCell n a) : m = n := by
  induction m generalizing lo n with
  | nil =>
    cases n with
    | nil => rfl
    | cons d rest' =>
      obtain ⟨-, hk', -, -⟩ := wfCellsFrom_cons.mp hn
      exact absurd (h d.1 hk').symm (lookupCell_head_ne (n := []) hn rfl)
  | cons c rest ih =>
    obtain ⟨k, v⟩ := c
    obtain ⟨hlo, hk, hv, hrest⟩ := wfCellsFrom_cons.mp hm
    cases n with
    | nil => exact absurd (h k hk) (lookupCell_head_ne (n := []) hm rfl)
    | cons d rest' =>
      obtain ⟨k', v'⟩ := d
      obtain ⟨hlo', hk', hv', hrest'⟩ := wfCellsFrom_cons.mp hn
      rcases Nat.lt_trichotomy k k' with hlt | rfl | hlt
      · exact absurd (h k hk) (lookupCell_head_ne hm (wfCellsFrom_cons.mpr ⟨hlt, hk', hv', hrest'⟩))
      · have hvalue : v = v' := by simpa [lookupCell] using h k hk
        have hreads : ∀ a < 65536, lookupCell rest a = lookupCell rest' a := by
          intro a ha
          by_cases hak : a = k
          · rw [lookupCell_below hrest (by omega), lookupCell_below hrest' (by omega)]
          · simpa [lookupCell, hak] using h a ha
        rw [hvalue, ih hrest hrest' hreads]
      · exact absurd (h k' hk').symm (lookupCell_head_ne hn (wfCellsFrom_cons.mpr ⟨hlt, hk, hv, hrest⟩))

theorem Machine.Memory.ext_read {m n : Memory} (hm : m.wf = true) (hn : n.wf = true)
    (h : ∀ a : Word, m.read a = n.read a) : m = n := by
  refine wfCellsFrom_unique hm hn fun a ha => ?_
  simpa [Memory.read, Nat.mod_eq_of_lt ha] using h (BitVec.ofNat 16 a)

/-- Settles O8: canonical memories that read alike are the same list. -/
theorem canonicalMemoryIsUnique : Obligations.CanonicalMemoryIsUnique :=
  fun _ _ hm hn h => Memory.ext_read hm hn h

/-! ## A loaded image -/

theorem lookupCell_cellsOfImageFrom (ws : List Word) (lo a : Nat) :
    lookupCell (cellsOfImageFrom lo ws) a = if lo ≤ a then ws.getD (a - lo) 0 else 0 := by
  induction ws generalizing lo with
  | nil => simp [cellsOfImageFrom, lookupCell]
  | cons w ws ih =>
    simp only [cellsOfImageFrom]
    rcases Nat.lt_trichotomy a lo with hlt | rfl | hlt
    · have hn : ¬ lo + 1 ≤ a := by omega
      split <;> simp [lookupCell, ih, hn, Nat.ne_of_lt hlt, Nat.not_le_of_lt hlt]
    · split
      · next hw => simp [ih, hw]
      · simp [lookupCell]
    · obtain ⟨d, rfl⟩ := Nat.exists_eq_add_of_lt hlt
      have hd : lo + d + 1 - lo = d + 1 := by omega
      have hd' : lo + d + 1 - (lo + 1) = d := by omega
      split <;> simp [lookupCell, ih, hd, hd', Nat.ne_of_gt hlt, Nat.le_of_lt hlt]

/-- Word `k` of an image is at address `k`, and every other address reads as the unlisted word (R196). -/
theorem Machine.Memory.read_ofImage (image : List Word) (a : Word) :
    (Memory.ofImage image).read a = image.getD a.toNat 0 := by
  simp [Memory.read, Memory.ofImage, lookupCell_cellsOfImageFrom]

theorem length_memoryWords (p : Parameters) {image : List Word} (h : image.length ≤ 65536) :
    (memoryWords p image).length = 65536 := by
  simp only [memoryWords, List.length_append, List.length_map, List.length_range']
  omega

/-- The whole memory at the start of a run: the image, and `MEM_INIT` at the addresses after it (R196). -/
theorem getD_memoryWords (p : Parameters) (image : List Word) (a : Word) :
    (memoryWords p image).getD a.toNat 0 = if h : a.toNat < image.length then image[a.toNat] else p.outsideImage a := by
  have ha := a.isLt
  simp only [memoryWords]
  split
  · next h => rw [List.getD_append _ _ _ _ h, List.getD_eq_getElem _ _ h]
  · next h =>
    rw [List.getD_append_right _ _ _ _ (Nat.le_of_not_lt h), List.getD_eq_getElem _ _ (by simp; omega)]
    simp [show image.length + (a.toNat - image.length) = a.toNat by omega]

/-! ## The state a run starts in -/

/-- Loading changes nothing of the reset state but memory (R190, R196). -/
theorem launch_of_fits {image : List Word} (h : image.length ≤ 65536) :
    State.launch image = some { State.reset with memory := Memory.ofImage image } := if_pos h

theorem launchWith_of_fits (p : Parameters) {image : List Word} (h : image.length ≤ 65536) :
    State.launchWith p image = some { State.reset with memory := Memory.ofImage (memoryWords p image) } := if_pos h

theorem launch_eq_some {image : List Word} {s : State} (h : State.launch image = some s) :
    image.length ≤ 65536 ∧ s = { State.reset with memory := Memory.ofImage image } := by
  simpa [State.launch, eq_comm] using h

theorem launchWith_eq_some {p : Parameters} {image : List Word} {s : State} (h : State.launchWith p image = some s) :
    image.length ≤ 65536 ∧ s = { State.reset with memory := Memory.ofImage (memoryWords p image) } := by
  simpa [State.launchWith, eq_comm] using h

theorem reset_readReg (m : Memory) (r : Reg) : ({ State.reset with memory := m } : State).readReg r = 0 := by
  cases r <;> rfl

/-- Settles O1: reset fixes every field but memory, and memory reads as the image was laid out. -/
theorem launchStateIsResetStateWithImage : Obligations.LaunchStateIsResetStateWithImage := by
  refine ⟨fun image h => ?_, fun p image h => ?_⟩
  · exact ⟨_, launch_of_fits h, reset_readReg _, rfl, rfl, rfl, rfl, rfl, rfl, Memory.read_ofImage image⟩
  · exact ⟨_, launchWith_of_fits p h, reset_readReg _, rfl, rfl, rfl, rfl, rfl, rfl,
      fun a => (Memory.read_ofImage _ a).trans (getD_memoryWords p image a)⟩

/-- Settles O2: the length test of launch, and `restart`, which does not look at the earlier state. -/
theorem longImageIsRejectedAndResetForgets : Obligations.LongImageIsRejectedAndResetForgets :=
  ⟨fun _ h => if_neg (Nat.not_le_of_lt h), fun _ _ h => if_neg (Nat.not_le_of_lt h), rfl, fun _ _ => rfl⟩

/-- Settles O3: a launched machine is running with pc 0, and word 0 of its memory is word 0 of the image. -/
theorem firstStepRunsWordZero : Obligations.FirstStepRunsWordZero := by
  intro image s h
  obtain ⟨-, rfl⟩ := launch_eq_some h
  exact ⟨rfl, step_of_running rfl, Memory.read_ofImage image 0⟩

/-! ## The invariant at the start of a run -/

theorem inv_of_reset_with_memory {m : Memory} (h : m.wf = true) : ({ State.reset with memory := m } : State).Inv :=
  ⟨h, rfl⟩

/-- Settles O4: reset lists nothing in memory and records no halt. -/
theorem resetMeetsInvariant : Obligations.ResetMeetsInvariant := inv_of_reset_with_memory Memory.wf_reset

/-- Settles O5: an image that fits is loaded in canonical form, over a reset halt record. -/
theorem launchMeetsInvariant : Obligations.LaunchMeetsInvariant := by
  refine ⟨fun image s h => ?_, fun p image s h => ?_⟩
  · obtain ⟨hfits, rfl⟩ := launch_eq_some h
    exact inv_of_reset_with_memory (Memory.wf_ofImage hfits)
  · obtain ⟨hfits, rfl⟩ := launchWith_eq_some h
    exact inv_of_reset_with_memory (Memory.wf_ofImage (Nat.le_of_eq (length_memoryWords p hfits)))

/-! ## The image file (20_memory.md section 2) -/

/-- A file of an even number of bytes is read: it falls into pairs (R34). -/
theorem wordsInOrder_of_even (order : Config.ByteOrder) (bytes : List Byte) (h : bytes.length % 2 = 0) :
    ∃ words, wordsInOrder order bytes = some words := by
  induction bytes using wordsInOrder.induct with
  | case1 => exact ⟨[], rfl⟩
  | case2 => cases h
  | case3 first second rest ih =>
    obtain ⟨words, hwords⟩ := ih (by simp only [List.length_cons] at h; omega)
    exact ⟨_, by rw [wordsInOrder, hwords]; rfl⟩

/-- A file that is read holds two bytes a word, and word `k` is made of the two at `2 * k`. -/
theorem wordsInOrder_eq_some {order : Config.ByteOrder} {bytes : List Byte} {words : List Word}
    (h : wordsInOrder order bytes = some words) :
    bytes.length = 2 * words.length ∧ ∀ k < words.length,
      words.getD k 0 = imageWord order (bytes.getD (2 * k) 0) (bytes.getD (2 * k + 1) 0) := by
  induction bytes using wordsInOrder.induct generalizing words with
  | case1 => cases h; simp
  | case2 => cases h
  | case3 first second rest ih =>
    rw [wordsInOrder, Option.map_eq_some_iff] at h
    obtain ⟨words', hrest, rfl⟩ := h
    obtain ⟨hlen, hword⟩ := ih hrest
    refine ⟨by simp only [List.length_cons]; omega, fun k hk => ?_⟩
    cases k with
    | zero => rfl
    | succ k => exact hword k (Nat.lt_of_succ_lt_succ hk)

theorem toNat_append_bytes (x y : Byte) : (x ++ y : Word).toNat = 256 * x.toNat + y.toNat := by
  have hy := y.isLt
  rw [BitVec.toNat_append, ← Nat.shiftLeft_add_eq_or_of_lt hy, Nat.shiftLeft_eq]
  omega

/-- Settles O9: the pairs of bytes, each joined in the file's order. -/
theorem imageFileIsBigEndian : Obligations.ImageFileIsBigEndian := by
  refine ⟨wordsInOrder_of_even .bigEndian, fun bytes words h => ?_, wordsInOrder_of_even .littleEndian,
    fun bytes words h => ?_⟩
  · obtain ⟨hlen, hword⟩ := wordsInOrder_eq_some h
    exact ⟨hlen, fun k hk => by rw [hword k hk, imageWord, toNat_append_bytes]⟩
  · obtain ⟨hlen, hword⟩ := wordsInOrder_eq_some h
    exact ⟨hlen, fun k hk => by rw [hword k hk, imageWord, toNat_append_bytes, Nat.add_comm]⟩

end Sys2Proof
end

section
/-! PROOFS. The Address Resolver (40_operands.md sections 1 to 3): each code, the summary by code, and the order of
the two resolutions. -/

namespace Sys2Proof
open Machine

/-! ## What resolving leaves unchanged (40_operands.md R70) -/

@[simp] theorem resolve_regs (role : Role) (o : Operand) (s : State) : (resolve role o s).2.regs = s.regs := by
  rw [resolve_state]

@[simp] theorem resolve_memory (role : Role) (o : Operand) (s : State) :
    (resolve role o s).2.memory = s.memory := by
  rw [resolve_state]

@[simp] theorem resolve_run (role : Role) (o : Operand) (s : State) : (resolve role o s).2.run = s.run := by
  rw [resolve_state]

@[simp] theorem resolve_pc (role : Role) (o : Operand) (s : State) :
    (resolve role o s).2.pc = s.pc + o.pcMove := by
  rw [resolve_state]

@[simp] theorem resolve_sp (role : Role) (o : Operand) (s : State) :
    (resolve role o s).2.sp = s.sp + o.spMove role := by
  rw [resolve_state]

@[simp] theorem resolveBoth_regs (b a : Operand) (s : State) : (resolveBoth b a s).state.regs = s.regs := by
  rw [resolveBoth_state]

@[simp] theorem resolveBoth_memory (b a : Operand) (s : State) : (resolveBoth b a s).state.memory = s.memory := by
  rw [resolveBoth_state]

@[simp] theorem resolveBoth_run (b a : Operand) (s : State) : (resolveBoth b a s).state.run = s.run := by
  rw [resolveBoth_state]

@[simp] theorem resolveBoth_haltCause (b a : Operand) (s : State) :
    (resolveBoth b a s).state.haltCause = s.haltCause := by
  rw [resolveBoth_state]

@[simp] theorem resolveBoth_haltCode (b a : Operand) (s : State) :
    (resolveBoth b a s).state.haltCode = s.haltCode := by
  rw [resolveBoth_state]

@[simp] theorem resolveBoth_pc (b a : Operand) (s : State) :
    (resolveBoth b a s).state.pc = s.pc + a.pcMove + b.pcMove := by
  rw [resolveBoth_state]

@[simp] theorem resolveBoth_sp (b a : Operand) (s : State) :
    (resolveBoth b a s).state.sp = s.sp + a.spMove .a + b.spMove .b := by
  rw [resolveBoth_state]

/-! ## Code by code (40_operands.md section 2) -/

theorem Operand.ofCode_reg (r : Reg) : Operand.ofCode (0x00 + r.index.setWidth 6) = .reg r :=
  Operand.ofCode_code (.reg r)

theorem Operand.ofCode_memReg (r : Reg) : Operand.ofCode (0x08 + r.index.setWidth 6) = .memReg r :=
  Operand.ofCode_code (.memReg r)

theorem Operand.ofCode_regPlusNext (r : Reg) : Operand.ofCode (0x10 + r.index.setWidth 6) = .regPlusNext r :=
  Operand.ofCode_code (.regPlusNext r)

/-- Settles O18: the three ranges of codes name a register's three operands. -/
theorem registerCodesResolve : Obligations.RegisterCodesResolve := by
  intro role r s
  rw [Operand.ofCode_reg, Operand.ofCode_memReg, Operand.ofCode_regPlusNext]
  exact ⟨rfl, rfl, rfl⟩

/-- Settles O19: each code names its operand, and the resolver's case for it is the statement. -/
theorem stackCodesResolve : Obligations.StackCodesResolve :=
  fun _ _ => ⟨rfl, rfl, rfl, rfl, rfl⟩

/-- The inline code 0x21 + k names the literal k (R83). -/
theorem inlineValue_ofCode : ∀ k < 31, ∃ j, Operand.ofCode (BitVec.ofNat 6 (0x21 + k)) = .inline j ∧
    inlineValue j = BitVec.ofNat 16 k := by
  have hall : ∀ k < 31, Operand.ofCode (BitVec.ofNat 6 (0x21 + k)) = .inline (BitVec.ofNat 5 (k + 1)) ∧
      inlineValue (BitVec.ofNat 5 (k + 1)) = BitVec.ofNat 16 k := by decide
  exact fun k hk => ⟨_, hall k hk⟩

/-- Settles O20: each code names its operand, and the inline codes their values. -/
theorem pcExWordAndInlineCodesResolve : Obligations.PcExWordAndInlineCodesResolve := by
  refine fun role s => ⟨rfl, rfl, rfl, rfl, rfl, fun k hk => ?_⟩
  obtain ⟨j, hj, hvalue⟩ := inlineValue_ofCode k hk
  rw [hj, ← hvalue]
  rfl

/-! ## The role of an operand (40_operands.md section 1) -/

theorem Operand.ofCode_eq_iff (c : BitVec 6) (o : Operand) : Operand.ofCode c = o ↔ c = o.code :=
  ⟨fun h => h ▸ (Operand.code_ofCode c).symm, fun h => h ▸ Operand.ofCode_code o⟩

/-- A pop reads the word at sp, a push the word below it; no other operand asks for its role. -/
theorem resolve_role_irrelevant_iff (o : Operand) (s : State) :
    resolve .a o s = resolve .b o s ↔ o ≠ .stack := by
  cases o with
  | stack =>
    have hloc : s.sp ≠ s.sp - 1 := by bv_omega
    simpa [resolve] using fun h => absurd h hloc
  | _ => simp [resolve]

/-- Settles O21: resolving moves pc and sp, and the one operand that depends on its role has code 0x18. -/
theorem resolvingChangesOnlyPcAndSp : Obligations.ResolvingChangesOnlyPcAndSp := by
  refine fun c s => ⟨fun role => ⟨_, _, resolve_state role _ s⟩, ?_⟩
  rw [resolve_role_irrelevant_iff, Ne, Operand.ofCode_eq_iff]
  rfl

/-! ## The summary by kind of result (R84) -/

/-- The operands that resolve to a register. -/
def Operand.isReg : Operand → Bool
  | .reg _ => true
  | _ => false

/-- The operands that resolve to a memory word. -/
def Operand.isMem : Operand → Bool
  | .memReg _ | .stack | .memSp | .memNext => true
  | _ => false

theorem resolve_isSomeReg (role : Role) (o : Operand) (s : State) :
    (∃ r, (resolve role o s).1 = .reg r) ↔ o.isReg = true := by
  cases o <;> cases role <;> simp [resolve, Operand.isReg]

theorem resolve_isMem (role : Role) (o : Operand) (s : State) :
    (∃ a, (resolve role o s).1 = .mem a) ↔ o.isMem = true := by
  cases o <;> cases role <;> simp [resolve, Operand.isMem]

theorem Operand.isReg_ofCode : ∀ c : BitVec 6, (Operand.ofCode c).isReg = true ↔ c.toNat ≤ 0x07 := by decide

theorem Operand.isMem_ofCode : ∀ c : BitVec 6, (Operand.ofCode c).isMem = true ↔
    (0x08 ≤ c.toNat ∧ c.toNat ≤ 0x0f) ∨ c = 0x18 ∨ c = 0x19 ∨ c = 0x1e := by decide

theorem Operand.isLiteral_ofCode : ∀ c : BitVec 6, (Operand.ofCode c).isLiteral = true ↔
    (0x10 ≤ c.toNat ∧ c.toNat ≤ 0x17) ∨ c = 0x1a ∨ c = 0x1f ∨ 0x20 ≤ c.toNat := by decide

theorem Operand.pcMove_ofCode (c : BitVec 6) : (Operand.ofCode c).pcMove = if needsWord c then 1 else 0 := by
  rw [Operand.pcMove, takesWord_ofCode]

/-- Only code 0x18 moves sp, up as operand a and down as operand b. -/
theorem resolve_ofCode_sp (role : Role) (c : BitVec 6) (s : State) :
    (resolve role (Operand.ofCode c) s).2.sp =
      if c = 0x18 then (match role with | .a => s.sp + 1 | .b => s.sp - 1) else s.sp := by
  by_cases hc : c = 0x18
  · subst hc
    cases role <;> rfl
  · have hstack : Operand.ofCode c ≠ .stack := mt (Operand.ofCode_eq_iff c .stack).mp hc
    rw [if_neg hc, resolve_sp]
    cases h : Operand.ofCode c <;> simp_all [Operand.spMove]

/-- Settles O22: the kinds of location by operand, and the operands by code. -/
theorem resolverSummaryByCode : Obligations.ResolverSummaryByCode := by
  intro c role s
  refine ⟨(resolve_isSomeReg _ _ _).trans (Operand.isReg_ofCode c),
    (resolve_isMem _ _ _).trans (Operand.isMem_ofCode c),
    (resolve_isLit _ _ _).trans (Operand.isLiteral_ofCode c),
    (resolve_isSp _ _ _).trans (Operand.ofCode_eq_iff c .sp),
    (resolve_isPc _ _ _).trans (Operand.ofCode_eq_iff c .pc),
    (resolve_isEx _ _ _).trans (Operand.ofCode_eq_iff c .ex), ?_, resolve_ofCode_sp role c s⟩
  simp only [resolve_ofCode_pc, needsWord_iff]

/-! ## The order of the two resolutions (40_operands.md section 3) -/

/-- Settles O23: `resolveBoth` run on each pair; a pop then a push meet at the old top of stack. -/
theorem fixedAtResolutionReadAtDispatch : Obligations.FixedAtResolutionReadAtDispatch := by
  intro s
  refine ⟨?_, rfl, rfl, rfl, rfl, fun _ => rfl, fun _ => rfl, rfl, rfl⟩
  simp [resolveBoth, resolve, State.setSp]

/-- Settles O13: operand a takes its word first, so operand b's address is the word after it, or the first one when
operand a takes none. -/
theorem extraWordsAreOperandAsFirst : Obligations.ExtraWordsAreOperandAsFirst := by
  refine ⟨fun s => ?_, fun r s => rfl⟩
  have htwo : s.pc + 1 + 1 = s.pc + 2 := by bv_omega
  rw [← htwo]
  rfl

/-! ## pc at dispatch (41_step.md R108) -/

/-- `Len` as what the operands of the two forms add to pc, after the fetch's own 1. -/
theorem ofNat_len (w : Word) :
    BitVec.ofNat 16 (len w) = 1 + (Operand.ofCode (opa w)).pcMove
      + (if opcode w = 0 then 0#16 else (Operand.ofCodeB (opb w)).pcMove) := by
  rw [len, Operand.ofCodeB, Operand.pcMove_ofCode, Operand.pcMove_ofCode]
  by_cases h0 : opcode w = Config.opcSpecial
  · have hb : ¬ (opcode w ≠ Config.opcSpecial ∧ needsWord (codeOfB (opb w)) = true) := fun h => h.1 h0
    rw [if_pos (show opcode w = 0 from h0), if_neg hb]
    cases needsWord (opa w) <;> rfl
  · rw [if_neg (show opcode w ≠ 0 from h0)]
    simp only [ne_eq, h0, not_false_eq_true, true_and]
    cases needsWord (opa w) <;> cases needsWord (codeOfB (opb w)) <;> rfl

/-- Settles O29: the moves of pc by the fetch and the operands add up to the length. -/
theorem pcAtDispatchIsNextInstruction : Obligations.PcAtDispatchIsNextInstruction := by
  refine fun w s => ⟨fun h => ?_, fun h => ?_⟩
  · rw [ofNat_len, if_neg h, resolveBoth_pc]
    simp only [BitVec.add_assoc]
  · rw [ofNat_len, if_pos h, resolve_pc, BitVec.add_zero, BitVec.add_assoc]

end Sys2Proof
end

section
/-! PROOFS. SET, ADD and SUB (43_set_add_sub.md; 40_operands.md section 4): the effect, the frame, a literal
destination, and the jumps through PC. -/

namespace Sys2Proof
open Machine

/-! ## Each cell after a write through operand b -/

/-- SET, ADD and SUB are one meaning, each with the value it writes. -/
theorem exec_of_write {i : Instr} {b a : Operand} (hi : i = .set b a ∨ i = .add b a ∨ i = .sub b a) :
    ∃ f, ∀ s, exec i s = writeResult f b a s := by
  rcases hi with rfl | rfl | rfl
  · exact ⟨fun _ va => va, fun _ => rfl⟩
  · exact ⟨fun vb va => vb + va, fun _ => rfl⟩
  · exact ⟨fun vb va => vb - va, fun _ => rfl⟩

theorem exec_writeInstrs {i : Operand → Operand → Instr} (hi : i ∈ writeInstrs) (b a : Operand) :
    ∃ f, ∀ s, exec (i b a) s = writeResult f b a s := by
  simp only [writeInstrs, List.mem_cons, List.not_mem_nil, or_false] at hi
  rcases hi with rfl | rfl | rfl <;> exact exec_of_write (by simp)

section
variable {f : Word → Word → Word} {b a : Operand} {s t : State} (h : writeResult f b a s = .next t)
include h

theorem writeResult_readReg {r : Reg} (hb : b ≠ .reg r) : t.readReg r = s.readReg r := by
  have hloc : (resolveBoth b a s).locB ≠ .reg r := mt (resolve_isReg _ _ _ r).mp hb
  rw [State.readReg_eq, writeResult_next h, writeLoc_getReg, if_neg hloc, resolveBoth_regs, State.readReg_eq]

theorem writeResult_pc (hb : b ≠ .pc) : t.pc = s.pc + a.pcMove + b.pcMove := by
  have hloc : (resolveBoth b a s).locB ≠ .pc := mt (resolve_isPc _ _ _).mp hb
  rw [writeResult_next h, writeLoc_pc, if_neg hloc, resolveBoth_pc]

theorem writeResult_sp (hb : b ≠ .sp) : t.sp = s.sp + a.spMove .a + b.spMove .b := by
  have hloc : (resolveBoth b a s).locB ≠ .sp := mt (resolve_isSp _ _ _).mp hb
  rw [writeResult_next h, writeLoc_sp, if_neg hloc, resolveBoth_sp]

theorem writeResult_memory (hloc : ∀ addr, (resolveBoth b a s).locB ≠ .mem addr) : t.memory = s.memory := by
  rw [writeResult_next h, writeLoc_memory _ hloc, resolveBoth_memory]

theorem writeResult_memory_mem {addr : Word} (hloc : (resolveBoth b a s).locB = .mem addr) :
    t.memory = s.memory.write addr (f (resolveBoth b a s).valueB (resolveBoth b a s).valueA) := by
  rw [writeResult_next h, hloc, writeLoc_memory_mem, resolveBoth_memory]

theorem writeResult_readMem {addr x : Word} (hloc : (resolveBoth b a s).locB = .mem addr) (hx : x ≠ addr) :
    t.readMem x = s.readMem x := by
  rw [State.readMem_eq, writeResult_memory_mem h hloc, Memory.read_write, if_neg hx, State.readMem_eq]

theorem writeResult_run (hb : b.isLiteral = false) :
    t.run = s.run ∧ t.haltCause = s.haltCause ∧ t.haltCode = s.haltCode := by
  have hloc : ∀ w, (resolveBoth b a s).locB ≠ .lit w := fun w hw =>
    absurd ((resolve_isLit _ _ _).mp ⟨w, hw⟩) (by simp [hb])
  rw [writeResult_next h]
  simpa using writeLoc_run (s := (resolveBoth b a s).state)
    (f (resolveBoth b a s).valueB (resolveBoth b a s).valueA) hloc

end

/-- Through a literal nothing is stored, and the machine halts with the operands resolved (R92). -/
theorem writeResult_literal (f : Word → Word → Word) {b : Operand} (a : Operand) (s : State)
    (hb : b.isLiteral = true) :
    writeResult f b a s = .next ((resolveBoth b a s).state.raiseHalt .literalWrite 0) := by
  obtain ⟨v, hv⟩ := (resolve_isLit .b b (resolve .a a s).2).mpr hb
  rw [writeResult, show (resolveBoth b a s).locB = .lit v from hv, writeLoc_lit]

/-- Settles O48: the destination's cell by the kind of operand b, every other cell as resolving left it. -/
theorem writeInstructionsFrame : Obligations.WriteInstructionsFrame := by
  intro i hi b a s t h
  obtain ⟨f, hf⟩ := exec_writeInstrs hi b a
  rw [hf] at h
  refine ⟨fun r hb => writeResult_readReg h hb, fun hb => ?_, writeResult_pc h, writeResult_sp h,
    fun addr hloc x hx => writeResult_readMem h hloc hx, fun hloc x => ?_, writeResult_run h⟩
  · rw [writeResult_ex h, if_neg hb]
  · rw [State.readMem_eq, writeResult_memory h hloc, State.readMem_eq]

/-! ## Literal destinations (40_operands.md section 4) -/

theorem isLiteral_ofCodeB : ∀ c : BitVec 5, (Operand.ofCodeB c).isLiteral = true ↔ c ∈ literalCodesB := by decide

/-- The ten literal codes take an extra word and leave sp alone. -/
theorem moves_of_literalCodesB : ∀ c ∈ literalCodesB,
    (Operand.ofCodeB c).pcMove = 1 ∧ (Operand.ofCodeB c).spMove .b = 0#16 := by decide

/-- Settles O25: the halt leaves what resolving did, a move of pc by the literal's own word among it. -/
theorem literalDestinationHalts : Obligations.LiteralDestinationHalts := by
  intro i hi c hc a s
  obtain ⟨f, hf⟩ := exec_writeInstrs hi (Operand.ofCodeB c) a
  obtain ⟨hpc, hsp⟩ := moves_of_literalCodesB c hc
  rw [hf, writeResult_literal f a s ((isLiteral_ofCodeB c).mpr hc), resolveBoth_state, hpc, hsp, BitVec.add_zero]
  rfl

/-- Settles O26: the other codes name no literal, and only a write through a literal touches the run state. -/
theorem otherDestinationsDoNotHalt : Obligations.OtherDestinationsDoNotHalt := by
  intro i hi c hc a s
  obtain ⟨f, hf⟩ := exec_writeInstrs hi (Operand.ofCodeB c) a
  have hlit : (Operand.ofCodeB c).isLiteral = false := Bool.eq_false_iff.mpr (mt (isLiteral_ofCodeB c).mp hc)
  exact ⟨_, hf s, writeResult_run rfl hlit⟩

/-! ## The value written -/

/-- Settles O43: the meaning of SET, read out. -/
theorem setEffect : Obligations.SetEffect := fun _ _ _ => rfl

/-- A register as operand b gets the result of its own old value and operand a's; nothing else moves but pc and sp
by operand a. -/
theorem writeResult_reg (f : Word → Word → Word) (r : Reg) (a : Operand) (s : State) :
    writeResult f (.reg r) a s = .next
      { s with pc := s.pc + a.pcMove, sp := s.sp + a.spMove .a,
               regs := s.regs.set r (f (s.readReg r) (resolveBoth (.reg r) a s).valueA) } := by
  have hstate : (resolveBoth (.reg r) a s).state = { s with pc := s.pc + a.pcMove, sp := s.sp + a.spMove .a } :=
    resolve_state .a a s
  have hvalue : (resolveBoth (.reg r) a s).valueB = s.readReg r := congrArg (Regs.get · r) (resolveBoth_regs _ a s)
  rw [writeResult, hvalue, hstate]
  rfl

/-- Settles O44, with the register file that the write leaves. -/
theorem setRegisterThenRead : Obligations.SetRegisterThenRead := by
  refine fun r a s => ⟨_, writeResult_reg (fun _ va => va) r a s, ?_, fun q hq => ?_, ?_⟩
  · rw [Regs.get_set, if_pos rfl]
  · rw [Regs.get_set, if_neg hq]
  · rintro rfl
    rw [Regs.get_set, if_pos rfl]
    rfl

theorem writeResult_reg_reads (f : Word → Word → Word) (r : Reg) (a : Operand) (s : State) :
    ∃ t, writeResult f (.reg r) a s = .next t ∧
      t.readReg r = f (s.readReg r) (resolveBoth (.reg r) a s).valueA :=
  ⟨_, writeResult_reg f r a s, by rw [State.readReg_eq, Regs.get_set, if_pos rfl]⟩

/-- Settles O46: ADD's meaning read out, and the register's sum as a number. -/
theorem addEffect : Obligations.AddEffect := by
  refine ⟨fun _ _ _ => rfl, fun r a s => ?_⟩
  obtain ⟨t, ht, hr⟩ := writeResult_reg_reads (fun vb va => vb + va) r a s
  exact ⟨t, ht, by rw [hr, BitVec.toNat_add]⟩

/-- Settles O47: SUB's meaning read out, and the register's difference as an integer. -/
theorem subEffect : Obligations.SubEffect := by
  refine ⟨fun _ _ _ => rfl, fun r a s => ?_⟩
  obtain ⟨t, ht, hr⟩ := writeResult_reg_reads (fun vb va => vb - va) r a s
  have hb := (s.readReg r).isLt
  have ha := (resolveBoth (.reg r) a s).valueA.isLt
  exact ⟨t, ht, by rw [hr, BitVec.toNat_sub]; omega⟩

/-! ## Corner cases -/

/-- In canonical memory, writing a word with its own value changes nothing. -/
theorem Machine.Memory.write_read {m : Memory} (h : m.wf = true) (a : Word) : m.write a (m.read a) = m := by
  refine Memory.ext_read (Memory.wf_write h a _) h fun b => ?_
  rw [Memory.read_write]
  split
  · next hb => rw [hb]
  · rfl

/-- Settles O45: `SET r, r` writes a register's own value, `SET PUSH, POP` the top of stack's own word. -/
theorem setCornerCases : Obligations.SetCornerCases := by
  refine fun s => ⟨fun r => ?_, fun hwf => ?_, rfl⟩
  · have hregs : s.regs.set r (s.readReg r) = s.regs := Regs.set_get s.regs r
    exact congrArg (fun g => Host.Outcome.next { s with regs := g }) hregs
  · have hstack : resolveBoth .stack .stack s = ⟨.mem s.sp, .mem s.sp, s⟩ := (fixedAtResolutionReadAtDispatch s).1
    have hset : exec (.set .stack .stack) s = .next (s.writeMem s.sp (s.memory.read s.sp)) := by
      rw [setEffect, hstack]
      rfl
    rw [hset, State.writeMem, Memory.write_read hwf]

/-- A write through `PC` jumps to the result of the next instruction's address and operand a's value (R135). -/
theorem writeResult_through_pc (f : Word → Word → Word) (a : Operand) (s : State) :
    ∃ t, writeResult f .pc a s = .next t ∧ t.pc = f (s.pc + a.pcMove) (resolveBoth .pc a s).valueA := by
  have hvalue : (resolveBoth .pc a s).valueB = s.pc + a.pcMove := resolve_pc .a a s
  exact ⟨_, rfl, congrArg (f · (resolveBoth .pc a s).valueA) hvalue⟩

/-- Settles O49: the jump's target under each of the three results, and three of them run. -/
theorem writingPcJumps : Obligations.WritingPcJumps := fun s =>
  ⟨fun a => writeResult_through_pc (fun _ va => va) a s, fun a => writeResult_through_pc (fun vb va => vb + va) a s,
    fun a => writeResult_through_pc (fun vb va => vb - va) a s, rfl, rfl, rfl⟩

/-- Settles O50: in each form both operands are read in the resolved state, and one word of it is written. -/
theorem readsComeBeforeTheWrite : Obligations.ReadsComeBeforeTheWrite :=
  fun _ _ => ⟨rfl, rfl, rfl⟩

end Sys2Proof
end

section
/-! PROOFS. JSR (42_special_jsr.md) and every other opcode (45_unimplemented.md), and with them that exec always
answers a next state (41_step.md section 1). -/

namespace Sys2Proof
open Machine

/-! ## JSR (R120, R121) -/

/-- Settles O51: the resolved state, the push into it, and the read after the push. -/
theorem jsrPushesAndJumps : Obligations.JsrPushesAndJumps := by
  intro a s
  simp only [exec, execJsr, resolve_state]
  rfl

/-- A JSR that reads its target from memory sees the word it has pushed (D9). -/
theorem exec_jsr_mem {a : Operand} {s s' : State} {x : Word} (h : resolve .a a s = (.mem x, s')) :
    exec (.jsr a) s = .next
      { s' with sp := s'.sp - 1, memory := s'.memory.write (s'.sp - 1) s'.pc,
                pc := if x = s'.sp - 1 then s'.pc else s'.memory.read x } := by
  simp only [exec, execJsr, h, readLoc_mem, State.push_memory, Memory.read_write]
  rfl

/-- Settles O52: a target outside memory is read off; one in memory is the pushed word or an old one, by the
address of the push. -/
theorem jsrCornerCases : Obligations.JsrCornerCases := by
  intro s
  have hback : s.sp + 1 - 1 = s.sp := BitVec.add_sub_cancel _ _
  have hbelow : s.sp ≠ s.sp - 1 := by bv_omega
  refine ⟨fun _ => rfl, fun _ => exec_jsr_mem rfl, fun _ => rfl, ?_, ?_, rfl, rfl, rfl, rfl,
    exec_jsr_mem (x := s.readMem s.pc) (s' := s.advancePc) rfl, rfl, fun _ => rfl⟩
  · rw [exec_jsr_mem (x := s.sp) rfl]
    simp only [State.setSp, hback, if_pos]
  · rw [exec_jsr_mem (x := s.sp) rfl, if_neg hbelow]
    rfl

/-! ## The unknown opcodes (R160, R161) -/

theorem exec_unknownBasicRow : ∀ p ∈ unknownBasicRows, ∀ b a s,
    exec (p.2 b a) s = haltUnknownOpcode p.1 b a s := by
  simp only [unknownBasicRows, List.forall_mem_cons, List.not_mem_nil, false_implies, implies_true, and_true]
  repeat' apply And.intro
  all_goals exact fun _ _ _ => rfl

theorem exec_unknownSpecialRow : ∀ p ∈ unknownSpecialRows, ∀ a s,
    exec (p.2 a) s = haltUnknownSpecial p.1 a s := by
  simp only [unknownSpecialRows, List.forall_mem_cons, List.not_mem_nil, false_implies, implies_true, and_true]
  repeat' apply And.intro
  all_goals exact fun _ _ => rfl

/-- Settles O59: each row halts in the state after both resolutions. -/
theorem unknownOpcodesHalt : Obligations.UnknownOpcodesHalt := by
  intro p hp b a s
  rw [exec_unknownBasicRow p hp, haltUnknownOpcode, resolveBoth_state]
  rfl

/-- Settles O60: each row halts in the state after operand a's resolution. -/
theorem unknownSpecialOpcodesHalt : Obligations.UnknownSpecialOpcodesHalt := by
  intro p hp a s
  rw [exec_unknownSpecialRow p hp, haltUnknownSpecial, resolve_state]
  rfl

/-! ## The step -/

/-- No meaning faults or is refused: each of the five shapes answers a next state. -/
theorem exec_next (i : Instr) (s : State) : ∃ t, exec i s = .next t := by
  obtain ⟨a, rfl⟩ | ⟨f, b, a, -, hexec⟩ | ⟨p, c, b, a, -, -, hexec⟩ | ⟨o, c, b, a, -, -, hexec⟩ |
    ⟨k, c, a, -, -, hexec⟩ := exec_form i
  · exact ⟨_, jsrPushesAndJumps a s⟩
  all_goals exact ⟨_, hexec s⟩

/-- Settles O27: a running machine runs an instruction, which completes; a halted one has no step. -/
theorem stepExistsExactlyWhenRunning : Obligations.StepExistsExactlyWhenRunning := by
  refine fun s => ⟨fun hrun => ?_, step_of_halted⟩
  rw [step_of_running hrun]
  exact exec_next _ _

/-- Settles O38: the zero word is the unknown special opcode 0 with a register as operand a. -/
theorem zeroWordEndsTheRun : Obligations.ZeroWordEndsTheRun := by
  intro s hrun hzero
  rw [step_of_running hrun, show s.memory.read s.pc = 0 from hzero]
  rfl

/-! ## The decided parameters (00_scope.md section 3) -/

/-- A base opcode outside the decided numbering is the number of an unknown row. -/
theorem exists_unknownBasicRow {o : BitVec 5} (h0 : o ≠ 0) (hn : o ∉ Config.implementedBase) :
    ∃ p ∈ unknownBasicRows, p.1 = o := by
  have hall : ∀ o : BitVec 5, o ≠ 0 → o ∉ Config.implementedBase → o ∈ unknownBasicRows.map Prod.fst := by decide
  exact List.mem_map.mp (hall o h0 hn)

theorem exists_unknownSpecialRow {k : BitVec 5} (hk : k ≠ Config.spcJsr) : ∃ p ∈ unknownSpecialRows, p.1 = k := by
  have hall : ∀ k : BitVec 5, k ≠ Config.spcJsr → k ∈ unknownSpecialRows.map Prod.fst := by decide
  exact List.mem_map.mp (hall k hk)

/-- In the decided numbering an arm and its row of the opcode table have one meaning: an unknown arm's number is
that of its row. -/
theorem execArm_decided (w : Word) (s : State) : execArm (Config.decided.arm w) s = exec (decodeWord w) s := by
  obtain ⟨-, -, harm⟩ | ⟨h0, hk, harm⟩ | ⟨q, hq, -, -, harm⟩ | ⟨q, hq, -, -, -, harm⟩ | ⟨h0, hn, harm⟩ :=
    arm_cases Config.decided w
  · rw [decodeWord_eq_arm_instr, harm]
    rfl
  · obtain ⟨p, hp, hpk⟩ := exists_unknownSpecialRow hk
    rw [harm, decodeWord_specialRow (List.mem_cons_of_mem _ hp) h0 hpk.symm, exec_unknownSpecialRow p hp, hpk]
    rfl
  · rw [decodeWord_eq_arm_instr, harm]
    rfl
  · rw [decodeWord_eq_arm_instr, harm]
    rfl
  · obtain ⟨p, hp, hpo⟩ := exists_unknownBasicRow h0 hn
    rw [harm, decodeWord_basicRow (List.mem_append_right _ hp) hpo.symm, exec_unknownBasicRow p hp, hpo]
    rfl

theorem stepWith_decided (s : State) : stepWith Config.decided s = step s := by
  cases hrun : s.run with
  | running => rw [stepWith_of_running hrun, step_of_running hrun, execArm_decided]
  | halted => rw [stepWith_of_halted hrun, step_of_halted hrun]

/-- The words after the image are the unlisted word, so listing all of memory lists no more than the image. -/
theorem ofImage_memoryWords_decided {image : List Word} (h : image.length ≤ 65536) :
    Memory.ofImage (memoryWords Config.decided image) = Memory.ofImage image := by
  refine Memory.ext_read (Memory.wf_ofImage (Nat.le_of_eq (length_memoryWords _ h))) (Memory.wf_ofImage h) fun a => ?_
  rw [Memory.read_ofImage, Memory.read_ofImage, getD_memoryWords]
  split
  · next ha => exact (List.getD_eq_getElem _ _ ha).symm
  · next ha => exact (List.getD_eq_default _ _ (Nat.le_of_not_lt ha)).symm

theorem launchWith_decided (image : List Word) : State.launchWith Config.decided image = State.launch image := by
  by_cases h : image.length ≤ 65536
  · rw [launchWith_of_fits _ h, launch_of_fits h, ofImage_memoryWords_decided h]
  · rw [State.launchWith, State.launch, if_neg h, if_neg h]

/-- Settles O31: the arms, the load and the file order at the decided parameters. -/
theorem decidedParametersGiveThisMachine : Obligations.DecidedParametersGiveThisMachine :=
  ⟨by decide, stepWith_decided, launchWith_decided, fun _ => rfl⟩

end Sys2Proof
end

section
/-! PROOFS. The halt (10_state.md section 5; 60_exceptions.md sections 1 and 2): which words raise it, what a halting
step leaves, and the invariant. -/

namespace Sys2Proof
open Machine

/-! ## The state at dispatch -/

/-- `s` with the operands of the word `w` resolved: all that its instruction does before its dispatch effect
(41_step.md R103, R104). -/
def Machine.State.resolved (s : State) (w : Word) : State :=
  { s with
    pc := s.pc + (Operand.ofCode (opa w)).pcMove + if opcode w = 0 then 0#16 else (Operand.ofCodeB (opb w)).pcMove
    sp := s.sp + (Operand.ofCode (opa w)).spMove .a
      + if opcode w = 0 then 0#16 else (Operand.ofCodeB (opb w)).spMove .b }

theorem resolve_eq_resolved {w : Word} (h : opcode w = 0) (s : State) :
    (resolve .a (Operand.ofCode (opa w)) s).2 = s.resolved w := by
  rw [resolve_state, State.resolved, if_pos h, if_pos h, BitVec.add_zero, BitVec.add_zero]

theorem resolveBoth_eq_resolved {w : Word} (h : opcode w ≠ 0) (s : State) :
    (resolveBoth (Operand.ofCodeB (opb w)) (Operand.ofCode (opa w)) s).state = s.resolved w := by
  rw [resolveBoth_state, State.resolved, if_neg h, if_neg h]

/-- After the fetch and the resolutions, pc is the next instruction in sequence (R108). -/
theorem resolved_pc (s : State) (w : Word) :
    (State.resolved { s with pc := s.pc + 1 } w).pc = s.pc + BitVec.ofNat 16 (len w) := by
  simp only [State.resolved, ofNat_len, BitVec.add_assoc]

theorem step_eq_execArm {s : State} (h : s.run = .running) :
    step s = execArm (Config.decided.arm (s.memory.read s.pc)) { s with pc := s.pc + 1 } := by
  rw [step_of_running h, execArm_decided]

/-! ## Which words halt, and how -/

/-- The arm of a word either leaves the run state and the halt record alone, when the word raises no condition, or
resolves the word's operands and halts as the word says. -/
theorem execArm_halt_cases {p : Parameters} {w : Word} {s t : State} (h : execArm (p.arm w) s = .next t) :
    (haltOfWordWith p w = none ∧ t.run = s.run ∧ t.haltCause = s.haltCause ∧ t.haltCode = s.haltCode) ∨
    ∃ cause code, haltOfWordWith p w = some (cause, code) ∧ t = (s.resolved w).raiseHalt cause code := by
  unfold haltOfWordWith
  obtain ⟨h0, hk, harm⟩ | ⟨h0, hk, harm⟩ | ⟨q, hq, h0, hmem, harm⟩ | ⟨q, hq, h0, hmem, hn, harm⟩ | ⟨h0, hn, harm⟩ :=
    arm_cases p w
  · rw [harm] at h
    rw [if_pos h0, if_pos hk, execJsr_next h]
    exact .inl ⟨rfl, by simp [resolve_state]⟩
  · rw [harm] at h
    rw [if_pos h0, if_neg hk, ← resolve_eq_resolved h0]
    exact .inr ⟨_, _, rfl, haltUnknownSpecial_next h⟩
  · rw [harm, execArm, exec_writeOps hq] at h
    have hbase : opcode w ∈ p.implementedBase := List.mem_append_left _ hmem
    rw [if_neg (show opcode w ≠ Config.opcSpecial from h0), if_pos hbase]
    by_cases hlit : opb w ∈ literalCodesB
    · rw [writeResult_literal _ _ _ ((isLiteral_ofCodeB _).mpr hlit), resolveBoth_eq_resolved h0] at h
      rw [if_pos ⟨hmem, hlit⟩]
      exact .inr ⟨_, _, rfl, (Host.Outcome.next.inj h).symm⟩
    · rw [if_neg fun hc => hlit hc.2]
      exact .inl ⟨rfl, writeResult_run h (Bool.eq_false_iff.mpr (mt (isLiteral_ofCodeB _).mp hlit))⟩
  · rw [harm, execArm, exec_conditionals hq] at h
    rw [if_neg (show opcode w ≠ Config.opcSpecial from h0), if_pos hmem, if_neg fun hc => hn hc.1, skipUnless_next h]
    exact .inl ⟨rfl, by split <;> simp⟩
  · rw [harm] at h
    rw [if_neg (show opcode w ≠ Config.opcSpecial from h0), if_neg hn, ← resolveBoth_eq_resolved h0]
    exact .inr ⟨_, _, rfl, haltUnknownOpcode_next h⟩

/-- The same of a whole step with the decided numbers. -/
theorem step_halt_cases {s t : State} (h : step s = .next t) :
    (haltOfWord (s.readMem s.pc) = none ∧ t.run = s.run ∧ t.haltCause = s.haltCause ∧ t.haltCode = s.haltCode) ∨
    ∃ cause code, haltOfWord (s.readMem s.pc) = some (cause, code) ∧
      t = (State.resolved { s with pc := s.pc + 1 } (s.readMem s.pc)).raiseHalt cause code := by
  rw [step_eq_execArm (running_of_step h)] at h
  exact execArm_halt_cases h

/-- Settles O33: the two outcomes of an arm, under any parameters, and so of the step with the decided ones. -/
theorem haltRecordSaysWhy : Obligations.HaltRecordSaysWhy := by
  have hwith : ∀ (p : Parameters) (s t : State), stepWith p s = .next t →
      (haltOfWordWith p (s.readMem s.pc) = none ∧
        (t.run, t.haltCause, t.haltCode) = (.running, s.haltCause, s.haltCode)) ∨
      ∃ cause code, haltOfWordWith p (s.readMem s.pc) = some (cause, code) ∧
        (t.run, t.haltCause, t.haltCode) = (.halted, cause, code) := by
    intro p s t h
    have hrun := running_of_stepWith h
    rw [stepWith_of_running hrun] at h
    obtain ⟨hnone, htrun, hcause, hcode⟩ | ⟨cause, code, hsome, rfl⟩ := execArm_halt_cases h
    · exact .inl ⟨hnone, by rw [htrun, hcause, hcode, ← hrun]⟩
    · exact .inr ⟨cause, code, hsome, rfl⟩
  refine ⟨fun s t h => ?_, fun p s t h => ?_⟩
  · rw [← stepWith_decided] at h
    obtain ⟨hnone, hrec⟩ | ⟨cause, code, hsome, hrec⟩ := hwith _ s t h
    · rw [haltOfWord, hnone, hrec]
    · rw [haltOfWord, hsome, hrec]
  · obtain ⟨hnone, hrec⟩ | ⟨cause, code, hsome, hrec⟩ := hwith p s t h
    · rw [hnone, hrec]
    · rw [hsome, hrec]

/-! ## The three conditions (10_state.md section 5) -/

/-- SET, ADD and SUB are the rows 1, 2 and 3, and name their operand b. -/
theorem fields_of_writesThrough {i : Instr} {b : Operand} (h : i.writesThrough b) :
    i.fields.o ∈ [Config.opcSet, Config.opcAdd, Config.opcSub] ∧ i.operandB = some b := by
  obtain ⟨a, rfl | rfl | rfl⟩ := h
  · exact ⟨.head _, rfl⟩
  · exact ⟨.tail _ (.head _), rfl⟩
  · exact ⟨.tail _ (.tail _ (.head _)), rfl⟩

/-- A word is a write through operand b exactly when it has one of the three base opcodes. -/
theorem writesThrough_decodeWord_iff (w : Word) (b : Operand) :
    (decodeWord w).writesThrough b ↔
      opcode w ∈ [Config.opcSet, Config.opcAdd, Config.opcSub] ∧ b = Operand.ofCodeB (opb w) := by
  constructor
  · intro h
    obtain ⟨ho, hb⟩ := fields_of_writesThrough h
    have hop : (decodeWord w).fields.o = opcode w := by
      rw [← (fields_packFields (decodeWord w).fields).1]
      exact congrArg opcode (encodeOfDecodeIsTheWord w).2
    rw [hop] at ho
    have h0 : opcode w ≠ 0 := fun h0 => absurd ho (by rw [h0]; decide)
    rw [(operands_decodeWord w).2, if_neg h0] at hb
    exact ⟨ho, (Option.some.inj hb).symm⟩
  · rintro ⟨ho, rfl⟩
    refine ⟨Operand.ofCode (opa w), ?_⟩
    simp only [List.mem_cons, List.not_mem_nil, or_false] at ho
    rcases ho with ho | ho | ho
    · exact .inl (decodeWord_basicRow (p := (0x01, .set)) (by simp [basicRows]) ho)
    · exact .inr (.inl (decodeWord_basicRow (p := (0x02, .add)) (by simp [basicRows]) ho))
    · exact .inr (.inr (decodeWord_basicRow (p := (0x03, .sub)) (by simp [basicRows]) ho))

theorem writesThrough_literal_iff (w : Word) :
    (∃ b, (decodeWord w).writesThrough b ∧ b.isLiteral = true) ↔
      opcode w ∈ [Config.opcSet, Config.opcAdd, Config.opcSub] ∧ opb w ∈ literalCodesB := by
  simp only [writesThrough_decodeWord_iff, ← isLiteral_ofCodeB]
  exact ⟨fun ⟨_, ⟨ho, hb⟩, hlit⟩ => ⟨ho, hb ▸ hlit⟩, fun ⟨ho, hlit⟩ => ⟨_, ⟨ho, rfl⟩, hlit⟩⟩

/-- A word raises a condition exactly in the three cases, which exclude each other by its base opcode. -/
theorem haltOfWord_ne_none_iff (w : Word) :
    haltOfWord w ≠ none ↔
      (opcode w ≠ 0 ∧ opcode w ∉ Config.implementedBase) ∨ (opcode w = 0 ∧ spc w ≠ Config.spcJsr) ∨
      (opcode w ∈ [Config.opcSet, Config.opcAdd, Config.opcSub] ∧ opb w ∈ literalCodesB) := by
  have hspecial : (0 : BitVec 5) ∉ [Config.opcSet, Config.opcAdd, Config.opcSub] := by decide
  have hbase : ∀ o ∈ [Config.opcSet, Config.opcAdd, Config.opcSub], o ∈ Config.implementedBase := by decide
  rw [haltOfWord_eq]
  by_cases h0 : opcode w = 0
  · rw [if_pos h0]
    by_cases hk : spc w = Config.spcJsr
    · rw [if_pos hk]
      refine ⟨fun h => absurd rfl h, ?_⟩
      rintro (⟨h, -⟩ | ⟨-, h⟩ | ⟨h, -⟩)
      · exact absurd h0 h
      · exact absurd hk h
      · exact absurd (h0 ▸ h) hspecial
    · rw [if_neg hk]
      exact ⟨fun _ => .inr (.inl ⟨h0, hk⟩), fun _ => Option.some_ne_none _⟩
  · rw [if_neg (show opcode w ≠ Config.opcSpecial from h0)]
    by_cases hb : opcode w ∈ Config.implementedBase
    · rw [if_pos hb]
      split
      · next hlit => exact ⟨fun _ => .inr (.inr hlit), fun _ => Option.some_ne_none _⟩
      · next hlit =>
        refine ⟨fun h => absurd rfl h, ?_⟩
        rintro (⟨-, h⟩ | ⟨h, -⟩ | h)
        · exact absurd hb h
        · exact absurd h h0
        · exact absurd h hlit
    · have hw : opcode w ∉ [Config.opcSet, Config.opcAdd, Config.opcSub] := fun h => hb (hbase _ h)
      rw [if_neg hb]
      exact ⟨fun _ => .inl ⟨h0, hb⟩, fun _ => Option.some_ne_none _⟩

/-- Settles O32: a step from running ends halted exactly when the word raises a condition; a halted machine has no
step, and a reset starts afresh. -/
theorem haltsExactlyOnTheThreeConditions : Obligations.HaltsExactlyOnTheThreeConditions := by
  refine ⟨fun s t hrun h => ?_, fun s t hhalted h => ?_, fun s image hfits => ⟨_, launch_of_fits hfits, rfl⟩⟩
  · rw [writesThrough_literal_iff, ← haltOfWord_ne_none_iff]
    obtain ⟨hnone, htrun, -, -⟩ | ⟨cause, code, hsome, rfl⟩ := step_halt_cases h
    · rw [htrun, hrun, hnone]
      simp
    · rw [hsome]
      simp
  · rw [step_of_halted hhalted] at h
    cases h

/-- Settles O34: a halting step is the resolutions of the word's operands and the halt, and no more. -/
theorem haltUndoesNothing : Obligations.HaltUndoesNothing := by
  intro s t h hhalted
  obtain ⟨-, htrun, -, -⟩ | ⟨cause, code, -, rfl⟩ := step_halt_cases h
  · rw [htrun, running_of_step h] at hhalted
    cases hhalted
  · refine ⟨rfl, rfl, rfl, resolved_pc s _, ?_⟩
    obtain ⟨ha, hb⟩ := operands_decodeWord (s.readMem s.pc)
    rw [ha, hb]
    by_cases h0 : opcode (s.readMem s.pc) = 0
    · simp only [State.raiseHalt_sp, State.resolved, if_pos h0]
      rfl
    · simp only [State.raiseHalt_sp, State.resolved, if_neg h0]

/-! ## The invariant -/

/-- Memory stays in canonical form: an instruction writes at most one word, and a write keeps the form. -/
theorem exec_memory_wf {i : Instr} {s t : State} (hwf : s.memory.wf = true) (h : exec i s = .next t) :
    t.memory.wf = true := by
  obtain ⟨a, rfl⟩ | ⟨f, b, a, -, hexec⟩ | ⟨p, c, b, a, -, -, hexec⟩ | ⟨o, c, b, a, -, -, hexec⟩ |
    ⟨k, c, a, -, -, hexec⟩ := exec_form i
  · rw [execJsr_next h]
    simpa using Memory.wf_write hwf _ _
  · rw [hexec] at h
    by_cases hmem : ∃ addr, (resolveBoth b a s).locB = .mem addr
    · obtain ⟨addr, hloc⟩ := hmem
      exact writeResult_memory_mem h hloc ▸ Memory.wf_write hwf _ _
    · exact writeResult_memory h (fun addr hloc => hmem ⟨addr, hloc⟩) ▸ hwf
  · rw [hexec] at h
    rw [skipUnless_next h]
    split <;> simpa using hwf
  · rw [hexec] at h
    simpa [haltUnknownOpcode_next h] using hwf
  · rw [hexec] at h
    simpa [haltUnknownSpecial_next h] using hwf

/-- The cause and code of a word fit each other. -/
theorem haltRecordWf_raiseHalt {w : Word} {cause : HaltCause} {code : BitVec 5}
    (h : haltOfWord w = some (cause, code)) (s : State) : (s.raiseHalt cause code).haltRecordWf = true := by
  rw [haltOfWord_eq] at h
  split at h
  · split at h
    · cases h
    · next hk =>
      cases h
      exact decide_eq_true hk
  · next h0 =>
    split at h
    · split at h
      · cases h
        rfl
      · cases h
    · next hn =>
      cases h
      exact Bool.and_eq_true_iff.mpr ⟨decide_eq_true h0, decide_eq_true hn⟩

/-- Settles O6: memory by the frame of exec, the halt record by the two outcomes of a step. -/
theorem stepKeepsInvariant : Obligations.StepKeepsInvariant := by
  rintro s t ⟨hwf, hrecord⟩ h
  constructor
  · rw [step_of_running (running_of_step h)] at h
    exact exec_memory_wf (s := { s with pc := s.pc + 1 }) hwf h
  · obtain ⟨-, hrun, hcause, hcode⟩ | ⟨cause, code, hsome, rfl⟩ := step_halt_cases h
    · rwa [State.haltRecordWf, hrun, hcause, hcode]
    · exact haltRecordWf_raiseHalt hsome _

end Sys2Proof
end

section
/-! PROOFS. Frames over all instructions (10_state.md sections 1 to 3; 20_memory.md sections 4 and 5): the registers,
sp, memory and pc; that a store is seen by the next fetch; and that the halt record is never read. -/

namespace Sys2Proof
open Machine

/-! ## The instructions that neither store nor call -/

theorem ne_jsr_of_operandB {i : Instr} {b : Operand} (h : i.operandB = some b) (a : Operand) : i ≠ .jsr a := by
  rintro rfl
  cases h

theorem unknownSpecialRow_ne_jsr {p : BitVec 5 × (Operand → Instr)} (hp : p ∈ unknownSpecialRows) (a a' : Operand) :
    p.2 a ≠ .jsr a' := by
  have hall : ∀ k ∈ unknownSpecialRows.map Prod.fst, k ≠ Config.spcJsr := by decide
  intro h
  have hfields := (specialRow_spec p (List.mem_cons_of_mem _ hp) a).2.1
  rw [h] at hfields
  exact hall p.1 (List.mem_map_of_mem hp) (congrArg Fields.b hfields).symm

/-- An instruction is JSR, or a write through operand b, or it leaves registers and memory alone and moves sp by its
operands only. -/
theorem exec_kinds {i : Instr} {s t : State} (h : exec i s = .next t) :
    (∃ a, i = .jsr a) ∨
    (∃ f b a, (i = .set b a ∨ i = .add b a ∨ i = .sub b a) ∧ writeResult f b a s = .next t) ∨
    ((∀ a, i ≠ .jsr a) ∧ t.regs = s.regs ∧ t.memory = s.memory ∧
      ((∃ b, i.operandB = some b ∧ t.sp = s.sp + i.operandA.spMove .a + b.spMove .b) ∨
        (i.operandB = none ∧ t.sp = s.sp + i.operandA.spMove .a))) := by
  obtain ⟨a, rfl⟩ | ⟨f, b, a, hi, hexec⟩ | ⟨p, c, b, a, hrow, rfl, hexec⟩ | ⟨o, c, b, a, hrow, rfl, hexec⟩ |
    ⟨k, c, a, hrow, rfl, hexec⟩ := exec_form i
  · exact .inl ⟨a, rfl⟩
  all_goals rw [hexec] at h; refine .inr ?_
  · exact .inl ⟨f, b, a, hi, h⟩
  all_goals refine .inr ?_
  · obtain ⟨ha, hb⟩ := operands_conditionals hrow b a
    rw [skipUnless_next h]
    refine ⟨ne_jsr_of_operandB hb, by split <;> simp, by split <;> simp, .inl ⟨b, hb, ?_⟩⟩
    rw [ha]
    split <;> simp
  · obtain ⟨-, -, ha, hb⟩ := basicRow_spec (o, c) (List.mem_append_right _ hrow) b a
    rw [haltUnknownOpcode_next h]
    exact ⟨ne_jsr_of_operandB hb, by simp, by simp, .inl ⟨b, hb, by simp [ha]⟩⟩
  · obtain ⟨-, -, ha, hb⟩ := specialRow_spec (k, c) (List.mem_cons_of_mem _ hrow) a
    rw [haltUnknownSpecial_next h]
    exact ⟨unknownSpecialRow_ne_jsr hrow a, by simp, by simp, .inr ⟨hb, by simp [ha]⟩⟩

/-! ## Registers and sp (10_state.md sections 1 and 3) -/

/-- Settles O39: a push and the resolutions leave the registers alone, and a write reaches one through its own
code. -/
theorem registerWrittenOnlyThroughItsCode : Obligations.RegisterWrittenOnlyThroughItsCode := by
  intro i s t r h hw
  obtain ⟨a, rfl⟩ | ⟨f, b, a, hi, hwrite⟩ | ⟨-, hregs, -, -⟩ := exec_kinds h
  · rw [execJsr_next h]
    simp
  · exact writeResult_readReg hwrite fun hb => hw ⟨a, hb ▸ hi⟩
  · rw [State.readReg_eq, hregs, State.readReg_eq]

/-- Settles O41: the operands' moves of sp, and JSR's push below them. -/
theorem spMovedOnlyByStackOperandsJsrAndSp : Obligations.SpMovedOnlyByStackOperandsJsrAndSp := by
  intro i s t h hw
  obtain ⟨a, rfl⟩ | ⟨f, b, a, hi, hwrite⟩ | ⟨hjsr, -, -, hsp⟩ := exec_kinds h
  · rw [execJsr_next h]
    simp [Instr.operandA, Instr.operandB, BitVec.sub_eq_add_neg]
  · have hsp := writeResult_sp hwrite fun hb => hw ⟨a, hb ▸ hi⟩
    rcases hi with rfl | rfl | rfl <;> exact hsp.trans (BitVec.add_zero _).symm
  · obtain ⟨b, hb, hsp⟩ | ⟨hb, hsp⟩ := hsp
    all_goals
      rw [hb, hsp]
      dsimp only
      split
      · exact absurd rfl (hjsr _)
    · exact (BitVec.add_zero _).symm
    · exact ((BitVec.add_zero _).trans (BitVec.add_zero _)).symm

/-! ## Memory (20_memory.md sections 4 and 5) -/

theorem jsr_readMem {a : Operand} {s t : State} (h : exec (.jsr a) s = .next t) (x : Word) :
    t.readMem x = if x = s.sp + a.spMove .a - 1 then s.pc + a.pcMove else s.readMem x := by
  rw [execJsr_next h]
  simp

/-- Settles O42: JSR's one store, the one store through a memory operand b, and no other. -/
theorem memoryWrittenOnlyAtTheStoreAddress : Obligations.MemoryWrittenOnlyAtTheStoreAddress := by
  refine fun i s t h => ⟨?_, fun b a hi => ?_, fun hjsr hw => ?_⟩
  · rintro a rfl x hx
    rw [jsr_readMem h, if_neg hx]
  · obtain ⟨f, hexec⟩ := exec_of_write hi
    rw [hexec] at h
    exact ⟨fun addr hloc x hx => writeResult_readMem h hloc hx, writeResult_memory h⟩
  · obtain ⟨a, rfl⟩ | ⟨f, b, a, hi, -⟩ | ⟨-, -, hmemory, -⟩ := exec_kinds h
    · exact absurd rfl (hjsr a)
    · exact absurd ⟨a, hi⟩ (hw b)
    · exact hmemory

/-- A running machine that has come to a word runs that word. -/
theorem step_at {t : State} {addr v : Word} (hrun : t.run = .running) (hread : t.readMem addr = v)
    (hpc : t.pc = addr) : step t = exec (decodeWord v) { t with pc := addr + 1 } := by
  rw [step_of_running hrun, hpc, show t.memory.read addr = v from hread]

/-- Settles O37: a store leaves the machine running with the word in memory, so a fetch of its address runs it. -/
theorem storeIsSeenByNextFetch : Obligations.StoreIsSeenByNextFetch := by
  intro s hrun
  refine ⟨fun p hp b a r addr hword hr hloc => ?_, fun a addr hword haddr => ?_⟩
  · subst hr
    have hstep : step s = writeResult p.2 b a { s with pc := s.pc + 1 } := by
      rw [step_of_running hrun, show decodeWord (s.memory.read s.pc) = _ from hword, exec_writeOps hp]
    obtain ⟨t, ht⟩ : ∃ t, writeResult p.2 b a { s with pc := s.pc + 1 } = .next t := ⟨_, rfl⟩
    have hread : t.readMem addr = p.2 (resolveBoth b a { s with pc := s.pc + 1 }).valueB
        (resolveBoth b a { s with pc := s.pc + 1 }).valueA := by
      rw [State.readMem_eq, writeResult_memory_mem ht hloc, Memory.read_write, if_pos rfl]
    have htrun : t.run = .running := by
      rw [writeResult_next ht, hloc]
      simpa [writeLoc] using hrun
    exact ⟨t, hstep.trans ht, hread, step_at htrun hread⟩
  · have hstep : step s = exec (.jsr a) { s with pc := s.pc + 1 } := by
      rw [step_of_running hrun, show decodeWord (s.memory.read s.pc) = _ from hword]
    obtain ⟨t, ht⟩ := exec_next (.jsr a) { s with pc := s.pc + 1 }
    have hread : t.readMem addr = s.pc + 1 + a.pcMove := by
      rw [jsr_readMem ht, if_pos haddr]
    have htrun : t.run = .running := by
      rw [execJsr_next ht]
      simpa using hrun
    exact ⟨t, hstep.trans ht, hread, step_at htrun hread⟩

/-! ## pc (10_state.md section 2) -/

/-- Settles O36: an arm other than JSR ends with pc as the resolutions left it, but for a write through PC and a
skip. -/
theorem pcMovesToNextInstructionUnlessJump : Obligations.PcMovesToNextInstructionUnlessJump := by
  intro s t h hjsr hw
  rw [step_eq_execArm (running_of_step h), ← State.readMem_eq] at h
  have hnext := resolved_pc s (s.readMem s.pc)
  have hmemory : (State.resolved { s with pc := s.pc + 1 } (s.readMem s.pc)).memory = s.memory := rfl
  generalize s.readMem s.pc = w at *
  obtain ⟨-, -, harm⟩ | ⟨h0, -, harm⟩ | ⟨q, hq, h0, hmem, harm⟩ | ⟨q, hq, h0, -, -, harm⟩ | ⟨h0, -, harm⟩ :=
    arm_cases Config.decided w
  · exact absurd (by rw [decodeWord_eq_arm_instr, harm]; rfl) (hjsr _)
  · rw [harm] at h
    rw [haltUnknownSpecial_next h, resolve_eq_resolved h0]
    exact .inl hnext
  · rw [harm, execArm, exec_writeOps hq] at h
    have hb : (resolveBoth (Operand.ofCodeB (opb w)) (Operand.ofCode (opa w)) { s with pc := s.pc + 1 }).locB ≠ .pc :=
      fun hloc => hw ((writesThrough_decodeWord_iff w _).mpr ⟨hmem, ((resolve_isPc _ _ _).mp hloc).symm⟩)
    rw [writeResult_next h, writeLoc_pc, if_neg hb, resolveBoth_eq_resolved h0]
    exact .inl hnext
  · rw [harm, execArm, exec_conditionals hq] at h
    rw [skipUnless_next h, resolveBoth_eq_resolved h0]
    split
    · exact .inl hnext
    · refine .inr ⟨⟨q, hq, _, _, by rw [decodeWord_eq_arm_instr, harm]; rfl⟩, ?_⟩
      rw [State.skipNext_pc, hnext, hmemory]
      rfl
  · rw [harm] at h
    rw [haltUnknownOpcode_next h, resolveBoth_eq_resolved h0]
    exact .inl hnext

/-! ## The halt record is never read (10_state.md section 5) -/

/-- `s` with another halt record. -/
def Machine.State.withRecord (s : State) (cause : HaltCause) (code : BitVec 5) : State :=
  { s with haltCause := cause, haltCode := code }

theorem resolve_withRecord (role : Role) (o : Operand) (s : State) (cause : HaltCause) (code : BitVec 5) :
    resolve role o (s.withRecord cause code) =
      ((resolve role o s).1, (resolve role o s).2.withRecord cause code) := by
  cases o <;> cases role <;> rfl

theorem resolveBoth_withRecord (b a : Operand) (s : State) (cause : HaltCause) (code : BitVec 5) :
    resolveBoth b a (s.withRecord cause code) =
      { resolveBoth b a s with state := (resolveBoth b a s).state.withRecord cause code } := by
  simp only [resolveBoth, resolve_withRecord]

theorem readLoc_withRecord (s : State) (l : Loc) (cause : HaltCause) (code : BitVec 5) :
    readLoc (s.withRecord cause code) l = readLoc s l := by
  cases l <;> rfl

/-- A write keeps the other record, or replaces both by its own. -/
theorem writeLoc_withRecord (s : State) (l : Loc) (v : Word) (cause : HaltCause) (code : BitVec 5) :
    ∃ cause' code', writeLoc (s.withRecord cause code) l v = (writeLoc s l v).withRecord cause' code' := by
  cases l with
  | lit _ => exact ⟨.literalWrite, 0, rfl⟩
  | _ => exact ⟨cause, code, rfl⟩

/-- No meaning reads the halt record: it is kept, or replaced by a halt's own. -/
theorem exec_withRecord {i : Instr} {s t : State} (h : exec i s = .next t) (cause : HaltCause) (code : BitVec 5) :
    ∃ cause' code', exec i (s.withRecord cause code) = .next (t.withRecord cause' code') := by
  obtain ⟨a, rfl⟩ | ⟨f, b, a, -, hexec⟩ | ⟨p, c, b, a, -, -, hexec⟩ | ⟨o, c, b, a, -, -, hexec⟩ |
    ⟨k, c, a, -, -, hexec⟩ := exec_form i
  · refine ⟨cause, code, ?_⟩
    rw [execJsr_next h]
    simp only [exec, execJsr, resolve_withRecord]
    exact congrArg
      (fun v => Host.Outcome.next ((((resolve .a a s).2.push (resolve .a a s).2.pc).setPc v).withRecord cause code))
      (readLoc_withRecord ((resolve .a a s).2.push (resolve .a a s).2.pc) _ cause code)
  all_goals rw [hexec] at h ⊢
  · rw [writeResult_next h]
    obtain ⟨cause', code', hwrite⟩ := writeLoc_withRecord (resolveBoth b a s).state (resolveBoth b a s).locB
      (f (resolveBoth b a s).valueB (resolveBoth b a s).valueA) cause code
    refine ⟨cause', code', ?_⟩
    rw [← hwrite]
    simp only [writeResult, resolveBoth_withRecord, Resolved.valueB, Resolved.valueA, readLoc_withRecord]
  · refine ⟨cause, code, ?_⟩
    rw [skipUnless_next h, apply_ite (State.withRecord · cause code)]
    simp only [skipUnless, resolveBoth_withRecord, Resolved.valueB, Resolved.valueA, readLoc_withRecord]
    rfl
  · refine ⟨.unknownOpcode, o, ?_⟩
    rw [haltUnknownOpcode_next h, haltUnknownOpcode, resolveBoth_withRecord]
    rfl
  · refine ⟨.unknownSpecialOpcode, k, ?_⟩
    rw [haltUnknownSpecial_next h, haltUnknownSpecial, resolve_withRecord]
    rfl

/-- Settles O35: the fetch does not read the halt record, and no meaning does. -/
theorem haltRecordCannotBeRead : Obligations.HaltRecordCannotBeRead := by
  intro s t cause code h
  have hrun := running_of_step h
  rw [step_of_running hrun] at h
  obtain ⟨cause', code', hexec⟩ := exec_withRecord h cause code
  exact ⟨cause', code', (step_of_running (s := s.withRecord cause code) hrun).trans hexec⟩

end Sys2Proof
end

section
/-! PROOFS. The predicates of the skip-conditionals (44_conditional_skip.md sections 2 and 3). -/

namespace Sys2Proof
open Machine

/-- The two's-complement reading is that of the library. -/
theorem signed16_eq_toInt (v : Word) : signed16 v = v.toInt := by
  rw [signed16, BitVec.toInt_eq_toNat_cond]
  split <;> split <;> omega

theorem and_ne_zero_iff (vb va : Word) :
    vb &&& va ≠ 0 ↔ ∃ k < 16, vb.getLsbD k = true ∧ va.getLsbD k = true := by
  rw [Ne, BitVec.eq_of_getLsbD_eq_iff]
  simp

/-- Settles O55: a nonzero conjunction has a 1 bit, which both words have. -/
theorem bitTestPredicates : Obligations.BitTestPredicates := by
  refine fun vb va => ⟨decide_eq_true_iff.trans (and_ne_zero_iff vb va), ?_⟩
  simp [predIfb, predIfc]

/-- Settles O56: the predicates as comparisons of numbers, of which one holds. -/
theorem equalityAndUnsignedPredicates : Obligations.EqualityAndUnsignedPredicates := by
  intro vb va
  refine ⟨decide_eq_true_iff.trans BitVec.toNat_inj.symm, ?_, rfl, rfl, fun h => ?_, fun h => ?_⟩
  · simp [predIfn, predIfe]
  · have hne : vb.toNat ≠ va.toNat := mt BitVec.toNat_inj.mp (of_decide_eq_false h)
    rw [predIfg, predIfl, ← decide_not]
    exact decide_eq_decide.mpr (by omega)
  · rw [of_decide_eq_true h]
    simp [predIfg, predIfl]

/-- Settles O57: the signed predicates are the library's signed orders. -/
theorem signedPredicates : Obligations.SignedPredicates := by
  intro vb va
  have hlt : vb.toInt < 2 ^ 15 := BitVec.toInt_lt
  have hge : -2 ^ 15 ≤ vb.toInt := BitVec.le_toInt vb
  simp only [predIfa, predIfu, signed16_eq_toInt, BitVec.slt]
  refine ⟨trivial, trivial, trivial, ?_, ?_, ?_, ?_⟩
  · exact decide_eq_false (by simp; omega)
  · exact decide_eq_false (by simp; omega)
  · simp
  · simp

/-- Settles O58: the table, computed. -/
theorem outcomeTable : Obligations.OutcomeTable := by
  unfold Obligations.OutcomeTable
  decide

end Sys2Proof
end

section
/-! PROOFS. The step is the complete step of the spec's pseudocode (41_step.md R107): a simulation between the
model's locations and the pseudocode's places, then arm by arm of the dispatch. -/

namespace Sys2Proof
open Machine

/-! ## Locations and places -/

/-- A location as the pseudocode writes it, registers by number. -/
def Machine.Loc.place : Loc → Reference.Place
  | .reg r => .reg r.index.toNat
  | .pc => .pc
  | .sp => .sp
  | .ex => .ex
  | .mem a => .mem a
  | .lit v => .lit v

/-- The role as the pseudocode's flag `isA`. -/
def Role.isA : Role → Bool
  | .a => true
  | .b => false

theorem reference_read (s : State) (l : Loc) : Reference.read s l.place = readLoc s l := by
  cases l with
  | reg r => cases r <;> rfl
  | _ => rfl

theorem reference_write (s : State) (l : Loc) (v : Word) : Reference.write s l.place v = writeLoc s l v := by
  cases l with
  | reg r => cases r <;> rfl
  | _ => rfl

/-- The inline codes are numbers from 0x20 on, and give the value the model reads. -/
theorem inlineValue_eq : ∀ k : BitVec 5, 0x20 ≤ (Operand.inline k).code.toNat ∧
    (if (Operand.inline k).code.toNat = 0x20 then 0xffff
      else BitVec.ofNat 16 ((Operand.inline k).code.toNat - 0x21)) = inlineValue k := by
  decide

/-- The pseudocode's resolver, by code number, is the model's, by operand. -/
theorem reference_resolve_code (role : Role) (o : Operand) (s : State) :
    Reference.resolve o.code.toNat role.isA s = ((resolve role o s).1.place, (resolve role o s).2) := by
  cases o with
  | reg r => cases r <;> rfl
  | memReg r => cases r <;> rfl
  | regPlusNext r => cases r <;> rfl
  | stack => cases role <;> rfl
  | inline k =>
    obtain ⟨hlow, hvalue⟩ := inlineValue_eq k
    simp (disch := omega) only [Reference.resolve, if_neg, hvalue]
    rfl
  | _ => rfl

theorem reference_resolve_a (w : Word) (s : State) :
    Reference.resolve (w.toNat / 1024) true s =
      ((resolve .a (Operand.ofCode (opa w)) s).1.place, (resolve .a (Operand.ofCode (opa w)) s).2) := by
  rw [← reference_resolve_code, Operand.code_ofCode, opa_toNat]
  rfl

theorem codeOfB_toNat (c : BitVec 5) : (codeOfB c).toNat = c.toNat := by
  rw [codeOfB, BitVec.toNat_setWidth]
  exact Nat.mod_eq_of_lt (Nat.lt_trans c.isLt (by decide))

theorem reference_resolve_b (w : Word) (s : State) :
    Reference.resolve (w.toNat / 32 % 32) false s =
      ((resolve .b (Operand.ofCodeB (opb w)) s).1.place, (resolve .b (Operand.ofCodeB (opb w)) s).2) := by
  rw [← reference_resolve_code, Operand.ofCodeB, Operand.code_ofCode, codeOfB_toNat, opb_toNat]
  rfl

/-! ## The fields of the word, as numbers -/

theorem reference_needsWord (c : BitVec 6) : Reference.needsWord c.toNat = needsWord c := by
  revert c; decide

theorem reference_len (w : Word) : Reference.len w.toNat = len w := by
  have h0 : w.toNat % 32 ≠ 0 ↔ opcode w ≠ Config.opcSpecial := by
    rw [← opcode_toNat]
    exact not_congr (BitVec.toNat_inj (y := 0))
  rw [Reference.len, len, ← opa_toNat, ← opb_toNat, ← codeOfB_toNat, reference_needsWord, reference_needsWord]
  simp only [h0]

/-! ## The predicates -/

/-- The pseudocode finds a predicate by testing the base opcodes in turn. -/
theorem reference_holds (p : Parameters) (o : BitVec 5) (vb va : Word) :
    Reference.holds p o.toNat vb va =
      if o = p.opcIfb then predIfb vb va else if o = p.opcIfc then predIfc vb va
      else if o = p.opcIfe then predIfe vb va else if o = p.opcIfn then predIfn vb va
      else if o = p.opcIfg then predIfg vb va else if o = p.opcIfa then predIfa vb va
      else if o = p.opcIfl then predIfl vb va else predIfu vb va := by
  simp only [Reference.holds, BitVec.toNat_inj, predIfa, predIfu, signed16_eq_toInt]
  rfl

theorem reference_isConditional_iff (p : Parameters) (o : BitVec 5) :
    Reference.isConditional p o.toNat = true ↔
      o = p.opcIfb ∨ o = p.opcIfc ∨ o = p.opcIfe ∨ o = p.opcIfn ∨ o = p.opcIfg ∨ o = p.opcIfa ∨ o = p.opcIfl ∨
        o = p.opcIfu := by
  simp [Reference.isConditional, BitVec.toNat_inj, or_assoc]

/-! ## The arms -/

theorem toNat_mod_eq_iff (w : Word) (c : BitVec 5) : w.toNat % 32 = c.toNat ↔ opcode w = c := by
  rw [← opcode_toNat, BitVec.toNat_inj]

theorem toNat_mod_eq_zero_iff (w : Word) : w.toNat % 32 = 0 ↔ opcode w = Config.opcSpecial :=
  toNat_mod_eq_iff w 0

theorem toNat_div_eq_iff (w : Word) (c : BitVec 5) : w.toNat / 32 % 32 = c.toNat ↔ spc w = c := by
  rw [← spc_toNat, BitVec.toNat_inj]

theorem reference_halt (s : State) (cause : HaltCause) (code : BitVec 5) :
    Reference.halt s cause code.toNat = s.raiseHalt cause code := by
  rw [Reference.halt, BitVec.ofNat_toNat, BitVec.setWidth_eq]
  rfl

/-- The skip-conditional the dispatch selects has the predicate the pseudocode tests: both try the eight numbers in
the same order. -/
theorem arm_of_isConditional {p : Parameters} {w : Word} (h0 : opcode w ≠ Config.opcSpecial)
    (hset : opcode w ≠ p.opcSet) (hadd : opcode w ≠ p.opcAdd) (hsub : opcode w ≠ p.opcSub)
    (hcond : Reference.isConditional p (opcode w).toNat = true) :
    ∃ q ∈ conditionals, p.arm w = .implemented (q.1 (Operand.ofCodeB (opb w)) (Operand.ofCode (opa w))) ∧
      ∀ vb va, Reference.holds p (opcode w).toNat vb va = q.2 vb va := by
  rw [reference_isConditional_iff] at hcond
  simp only [Parameters.arm, Parameters.armOfFields, if_neg h0, if_neg hset, if_neg hadd, if_neg hsub,
    reference_holds]
  by_cases h : opcode w = p.opcIfb
  · exact ⟨(.ifb, predIfb), by simp [conditionals], by rw [if_pos h], fun _ _ => by rw [if_pos h]⟩
  simp only [h, if_false, false_or] at hcond ⊢
  by_cases h : opcode w = p.opcIfc
  · exact ⟨(.ifc, predIfc), by simp [conditionals], by rw [if_pos h], fun _ _ => by rw [if_pos h]⟩
  simp only [h, if_false, false_or] at hcond ⊢
  by_cases h : opcode w = p.opcIfe
  · exact ⟨(.ife, predIfe), by simp [conditionals], by rw [if_pos h], fun _ _ => by rw [if_pos h]⟩
  simp only [h, if_false, false_or] at hcond ⊢
  by_cases h : opcode w = p.opcIfn
  · exact ⟨(.ifn, predIfn), by simp [conditionals], by rw [if_pos h], fun _ _ => by rw [if_pos h]⟩
  simp only [h, if_false, false_or] at hcond ⊢
  by_cases h : opcode w = p.opcIfg
  · exact ⟨(.ifg, predIfg), by simp [conditionals], by rw [if_pos h], fun _ _ => by rw [if_pos h]⟩
  simp only [h, if_false, false_or] at hcond ⊢
  by_cases h : opcode w = p.opcIfa
  · exact ⟨(.ifa, predIfa), by simp [conditionals], by rw [if_pos h], fun _ _ => by rw [if_pos h]⟩
  simp only [h, if_false, false_or] at hcond ⊢
  by_cases h : opcode w = p.opcIfl
  · exact ⟨(.ifl, predIfl), by simp [conditionals], by rw [if_pos h], fun _ _ => by rw [if_pos h]⟩
  simp only [h, if_false, false_or] at hcond ⊢
  exact ⟨(.ifu, predIfu), by simp [conditionals], by rw [if_pos hcond], fun _ _ => rfl⟩

/-- One step of the pseudocode is the arm of the fetched word, run after the fetch. -/
theorem execArm_eq_reference (p : Parameters) (s : State) :
    execArm (p.arm (s.memory.read s.pc)) { s with pc := s.pc + 1 } = .next (Reference.step p s) := by
  simp only [Reference.step, reference_resolve_a, reference_resolve_b, toNat_mod_eq_zero_iff, toNat_mod_eq_iff,
    toNat_div_eq_iff, reference_read, reference_write]
  generalize s.memory.read s.pc = w
  by_cases h0 : opcode w = Config.opcSpecial
  · rw [if_pos h0]
    by_cases hk : spc w = p.spcJsr
    · rw [if_pos hk, (arm_of_not_basicRow p w).2.1 h0 hk]
      rfl
    · rw [if_neg hk, (arm_of_not_basicRow p w).2.2 h0 hk, ← spc_toNat, reference_halt]
      rfl
  rw [if_neg h0]
  by_cases hset : opcode w = p.opcSet
  · rw [if_pos hset, Parameters.arm, Parameters.armOfFields, if_neg h0, if_pos hset]
    rfl
  by_cases hadd : opcode w = p.opcAdd
  · rw [if_neg hset, if_pos hadd, Parameters.arm, Parameters.armOfFields, if_neg h0, if_neg hset, if_pos hadd]
    rfl
  by_cases hsub : opcode w = p.opcSub
  · rw [if_neg hset, if_neg hadd, if_pos hsub, Parameters.arm, Parameters.armOfFields, if_neg h0, if_neg hset,
      if_neg hadd, if_pos hsub]
    rfl
  rw [if_neg hset, if_neg hadd, if_neg hsub, ← opcode_toNat]
  by_cases hcond : Reference.isConditional p (opcode w).toNat = true
  · obtain ⟨q, hq, harm, hholds⟩ := arm_of_isConditional h0 hset hadd hsub hcond
    rw [if_pos hcond, harm, execArm, exec_conditionals hq, hholds, reference_len]
    rfl
  · rw [if_neg hcond, reference_halt]
    rw [reference_isConditional_iff] at hcond
    rw [(arm_of_not_basicRow p w).1 h0 (by simpa [Parameters.implementedBase, hset, hadd, hsub] using hcond)]
    rfl

/-- Settles O30: in a running machine both steps are the arm of the fetched word. -/
theorem stepRefinesTheSpecPseudocode : Obligations.StepRefinesTheSpecPseudocode := by
  have hwith : ∀ (p : Parameters) (s : State), s.run = .running → stepWith p s = .next (Reference.step p s) :=
    fun p s hrun => (stepWith_of_running hrun).trans (execArm_eq_reference p s)
  exact ⟨fun s hrun => stepWith_decided s ▸ hwith Config.decided s hrun, hwith⟩

end Sys2Proof
end
